-- ==== Sys2Proof/Word.lean ====
section
/-!
DEFINITION. The word types of `BTNMAT`: the data formats of spec/30_encoding.md R46, R53, R54 and the widths of spec/10_state.md.
-/

namespace Sys2Proof

/-- Format `OP8`, an operation code (30_encoding.md R46). -/
abbrev Op8 := BitVec 8

/-- Format `MASK25`: bit `i` is cell `i`, 1 is lit (30_encoding.md R53). -/
abbrev Mask25 := BitVec 25

/-- Format `COLOR24`, the opaque word handed to the pixel transmitter (30_encoding.md R54). -/
abbrev Color24 := BitVec 24

/-- The 4-bit register `digit` (10_state.md R11). -/
abbrev Digit := BitVec 4

/-- The three pin levels `btn_n[2:0]`, bit `b` is button `b`, 1 is released (10_state.md R10). -/
abbrev Levels := BitVec 3

/-- A pin identifier, as the shared handler is given it (30_encoding.md R50). The spec gives no width for it (log 17). -/
abbrev PinId := Nat

/-- The row-major number of a cell, `i = 5 * row + col` (20_memory.md R32). -/
def cellIndex (row col : Nat) : Nat := 5 * row + col

/-- A mask as the source's ordered sequence of Booleans: element `i` of the list is bit `i` (30_encoding.md R53). -/
def maskOfCells : List Bool → Nat
  | [] => 0
  | lit :: rest => (if lit then 1 else 0) + 2 * maskOfCells rest

end Sys2Proof
end

