-- ==== Sys2Proof/Syntax.lean ====
section
/-!
DEFINITION. The syntax of `BTNMAT`: buttons, the eleven operations of spec/30_encoding.md R45, and what the environment can offer to a step.
-/

namespace Sys2Proof

/-- The three buttons; the spec names them by index 0, 1, 2 (10_state.md R10). -/
inductive Button where
  | inc  -- index 0, `PIN_INC`
  | dec  -- index 1, `PIN_DEC`
  | tog  -- index 2, `PIN_TOG`
deriving DecidableEq, Repr

/-- The button index convention of 10_state.md R10. -/
def Button.index : Button → Nat
  | .inc => 0
  | .dec => 1
  | .tog => 2

/-- The operations of `BTNMAT`, one constructor per row of spec/opcode_table.json (30_encoding.md R45). -/
inductive Instr where
  | edgeInc                 -- `EDGE_INC`, R64
  | edgeDec                 -- `EDGE_DEC`, R65
  | edgeTog                 -- `EDGE_TOG`, R66
  | edgeUnk                 -- `EDGE_UNK`, R67
  | blink                   -- `BLINK`, R85
  | pixel                   -- `PIXEL`, R75
  | sleep                   -- `SLEEP`, R92
  | wake                    -- `WAKE`, R93
  | tick                    -- `TICK`, R95
  | sample (lv : Levels)    -- `SAMPLE lv`, R60
  | reset                   -- `RESET`, R120
deriving DecidableEq, Repr

/-- The mnemonics of 30_encoding.md R45. -/
def Instr.mnemonic : Instr → String
  | .edgeInc => "EDGE_INC"
  | .edgeDec => "EDGE_DEC"
  | .edgeTog => "EDGE_TOG"
  | .edgeUnk => "EDGE_UNK"
  | .blink => "BLINK"
  | .pixel => "PIXEL"
  | .sleep => "SLEEP"
  | .wake => "WAKE"
  | .tick => "TICK"
  | .sample _ => "SAMPLE"
  | .reset => "RESET"

/-- The four classes of operations (30_encoding.md R45). -/
inductive OpClass where
  | button
  | mainLoop
  | time
  | reset
deriving DecidableEq, Repr

/-- The class of an operation, the second column of the table of 30_encoding.md R45. -/
def Instr.opClass : Instr → OpClass
  | .edgeInc => .button
  | .edgeDec => .button
  | .edgeTog => .button
  | .edgeUnk => .button
  | .sample _ => .button
  | .blink => .mainLoop
  | .pixel => .mainLoop
  | .sleep => .mainLoop
  | .wake => .mainLoop
  | .tick => .time
  | .reset => .reset

/-- One thing the environment offers to a step (00_scope.md R6: the environment chooses the interleaving): an operation code,
or an interrupt event delivered to the shared handler with a pin identifier (30_encoding.md R50). The list of them in the state
is the model's own (log 4, log 17). -/
inductive Stimulus where
  | code (op : Op8)
  | pin (p : PinId)
deriving DecidableEq, Repr

end Sys2Proof
end

