-- ==== Sys2Proof/Config.lean ====
section
/-!
DEFINITION. The parameters of `BTNMAT` (spec/00_scope.md R4, R5), the constants they are not free to change, the values the spec
leaves open (uninterpreted), and the parameter values of spec/95_test_vectors.md.
-/

namespace Sys2Proof

/-- The parameters of 00_scope.md R4 and R5: fixed for one machine, any value for a claim. They are no registers
(10_state.md R25); the state carries them because a step takes a state and nothing else (log 1). -/
structure Config where
  /-- `TW`, the width of `now` and of every timestamp (R5). -/
  tw : Nat
  /-- `T_DEBOUNCE` in ms (R4). -/
  tDebounce : Nat
  /-- `T_BLINK` in ms (R4). -/
  tBlink : Nat
  /-- `T_SLEEP` in ms (R4). -/
  tSleep : Nat
  /-- `PATTERN`, the digit pattern table `ROM` (R5, 20_memory.md R31). -/
  pattern : Vector Mask25 10
  /-- `COLOR_ACTIVE` (R5). -/
  colorActive : Color24
  /-- `STATUS_ON_LEVEL` (R5): the level of `status_out` when the indicator is on. -/
  statusOnLevel : Bool
  /-- `STRICT` (R5): a test build, in which an unknown pin is recorded. -/
  strict : Bool
  /-- `PIN_INC` (R5). -/
  pinInc : PinId
  /-- `PIN_DEC` (R5). -/
  pinDec : PinId
  /-- `PIN_TOG` (R5). -/
  pinTog : PinId
  /-- `PIN_STATUS` (R5). -/
  pinStatus : PinId
  /-- `PIN_DATA` (R5). -/
  pinData : PinId
  /-- `T_ACTIVE_MAX` in ms, or none: timing left free (R5, 43_main_loop.md R96). -/
  tActiveMax : Option Nat
deriving DecidableEq, Repr

/-! ## Constants of 00_scope.md R4 -/

/-- `ROWS`. -/
def rows : Nat := 5
/-- `COLS`. -/
def cols : Nat := 5
/-- `N_CELLS`. -/
def nCells : Nat := 25
/-- `N_DIGITS`. -/
def nDigits : Nat := 10
/-- `N_BUTTONS`. -/
def nButtons : Nat := 3
/-- `COLOR_OFF`, all channels zero (R4, 30_encoding.md R54). -/
def colorOff : Color24 := 0x000000#24
/-- The one index of `ROM` whose entry the reset values need (10_state.md R13). -/
def resetDigit : Digit := 0#4

/-! ## Open values: uninterpreted constants, nothing can be proved of them -/

/-- `PATTERN` of the machine of `State.reset`: the ten masks are not in the source (00_scope.md R5, 91 N1; log 2). -/
opaque Config.patternTable : Vector Mask25 10

/-- `COLOR_ACTIVE` of the machine of `State.reset` (00_scope.md R5; log 2). -/
opaque Config.activeColor : Color24

/-- `STATUS_ON_LEVEL` of the machine of `State.reset` (00_scope.md R5; log 2). -/
opaque Config.onLevel : Bool

/-- The pin assignment of the machine of `State.reset`: pin `k` of the list `PIN_INC`, `PIN_DEC`, `PIN_TOG`, `PIN_STATUS`,
`PIN_DATA` is `pinNumbering k`. A permutation of the naturals, so that the five are pairwise distinct (00_scope.md R5) and
nothing else is known (log 2). -/
opaque Config.pinNumbering : Equiv.Perm Nat

/-- The `n`-th mask whose value the spec leaves unspecified (60_exceptions.md R102, 93_implementation_defined.md U2; log 7). -/
opaque Config.freeMask : Nat → Mask25

/-! ## Two configurations -/

/-- The configuration of the machine of `State.reset`: the constants the source gives (00_scope.md R4), the hardware default
`TW = 32`, production behaviour, and everything else open (log 2). -/
def Config.hardware : Config where
  tw := 32
  tDebounce := 400
  tBlink := 100
  tSleep := 100
  pattern := Config.patternTable
  colorActive := Config.activeColor
  statusOnLevel := Config.onLevel
  strict := false
  pinInc := Config.pinNumbering 0
  pinDec := Config.pinNumbering 1
  pinTog := Config.pinNumbering 2
  pinStatus := Config.pinNumbering 3
  pinData := Config.pinNumbering 4
  tActiveMax := none

/-- `PATTERN_DEFAULT` (20_memory.md section 3): the spec's own stand-in, for test vectors only. -/
def patternDefault : Vector Mask25 10 :=
  #v[0x0E5294E#25, 0x0E210C4#25, 0x0E1390E#25, 0x0E4390E#25, 0x084394A#25,
     0x0E4384E#25, 0x0E5384E#25, 0x084210E#25, 0x0E5394E#25, 0x0E4394E#25]

/-- The parameters of spec/95_test_vectors.md; the pin numbers, which that file does not need, are the button indices and the
next two. For tests only: no meaning and no reset value uses it. -/
def Config.vectors : Config where
  tw := 32
  tDebounce := 400
  tBlink := 100
  tSleep := 100
  pattern := patternDefault
  colorActive := 0x002000#24
  statusOnLevel := true
  strict := false
  pinInc := 0
  pinDec := 1
  pinTog := 2
  pinStatus := 3
  pinData := 4
  tActiveMax := none

end Sys2Proof
end

