-- ==== Sys2Proof/WellFormed.lean ====
section
/-!
DEFINITION. What a well-formed operation and a well-formed configuration are.
-/

namespace Sys2Proof

/-- Every operation is well formed: the only operand is `lv[2:0]` and its type holds exactly the three bits
(30_encoding.md R48, R49). -/
def Instr.wellFormed : Instr → Bool
  | .edgeInc => true
  | .edgeDec => true
  | .edgeTog => true
  | .edgeUnk => true
  | .blink => true
  | .pixel => true
  | .sleep => true
  | .wake => true
  | .tick => true
  | .sample _ => true
  | .reset => true

/-- `TW >= 10` (00_scope.md R5). -/
def Config.widthOk (c : Config) : Bool := decide (10 ≤ c.tw)

/-- The three time constants fit in `TW` bits, which `zext_TW` needs (30_encoding.md R49). -/
def Config.thresholdsFit (c : Config) : Bool :=
  decide (c.tDebounce < 2 ^ c.tw) && decide (c.tBlink < 2 ^ c.tw) && decide (c.tSleep < 2 ^ c.tw)

/-- The three button pins are pairwise distinct (00_scope.md R5, 30_encoding.md R50). -/
def Config.buttonPinsDistinct (c : Config) : Bool :=
  decide (c.pinInc ≠ c.pinDec) && decide (c.pinInc ≠ c.pinTog) && decide (c.pinDec ≠ c.pinTog)

/-- `PIN_STATUS` and `PIN_DATA` are distinct from each other and from the button pins (00_scope.md R5). -/
def Config.outputPinsDistinct (c : Config) : Bool :=
  decide (c.pinStatus ≠ c.pinData) &&
    decide (c.pinStatus ∉ [c.pinInc, c.pinDec, c.pinTog]) && decide (c.pinData ∉ [c.pinInc, c.pinDec, c.pinTog])

/-- A configuration that meets every constraint of 00_scope.md R5. -/
def Config.wellFormed (c : Config) : Bool :=
  c.widthOk && c.thresholdsFit && c.buttonPinsDistinct && c.outputPinsDistinct

end Sys2Proof
end

