-- ==== Sys2Proof/Decode.lean ====
section
/-!
DEFINITION. Decoding and encoding of operation codes (spec/30_encoding.md R46, R47, R48, R51) and the pin identifier decode (R50).
-/

namespace Sys2Proof

/-- Why a code is no operation: the ranges of 30_encoding.md R51, by class. Each carries the refused code. -/
inductive Reserved where
  | buttonEvent (op : Op8)   -- class 0 with `arg >= 4`
  | mainLoop (op : Op8)      -- class 1 with `arg >= 4`
  | time (op : Op8)          -- class 2 with `arg >= 1`
  | pinSample (op : Op8)     -- class 3 with `op[4:3] != 0`
  | unusedClass (op : Op8)   -- classes 4, 5 and 6
  | resetClass (op : Op8)    -- class 7 with `arg != 31`
deriving DecidableEq, Repr

/-- The refused code. -/
def Reserved.code : Reserved → Op8
  | .buttonEvent op => op
  | .mainLoop op => op
  | .time op => op
  | .pinSample op => op
  | .unusedClass op => op
  | .resetClass op => op

/-- What reading one operation code answers. -/
inductive Decoded where
  | operation (i : Instr)
  | reserved (r : Reserved)
deriving DecidableEq, Repr

/-- Field `cls = op[7:5]` (30_encoding.md R46). -/
def clsField (op : Op8) : BitVec 3 := op.extractLsb' 5 3

/-- Field `arg = op[4:0]` (30_encoding.md R46). -/
def argField (op : Op8) : BitVec 5 := op.extractLsb' 0 5

/-- The operand of `SAMPLE`: `lv[b] = op[b]` (30_encoding.md R48). -/
def lvField (op : Op8) : Levels := op.extractLsb' 0 3

/-- Class 0, button events (30_encoding.md R47). -/
def decodeButtonEvent (op : Op8) : Decoded :=
  match (argField op).toNat with
  | 0 => .operation .edgeInc
  | 1 => .operation .edgeDec
  | 2 => .operation .edgeTog
  | 3 => .operation .edgeUnk
  | _ => .reserved (.buttonEvent op)

/-- Class 1, the main loop (30_encoding.md R47). -/
def decodeMainLoop (op : Op8) : Decoded :=
  match (argField op).toNat with
  | 0 => .operation .blink
  | 1 => .operation .pixel
  | 2 => .operation .sleep
  | 3 => .operation .wake
  | _ => .reserved (.mainLoop op)

/-- Class 2, time (30_encoding.md R47). -/
def decodeTime (op : Op8) : Decoded :=
  match (argField op).toNat with
  | 0 => .operation .tick
  | _ => .reserved (.time op)

/-- Class 3, the pin sample: `arg = {2'b00, lv[2:0]}` (30_encoding.md R47). -/
def decodePinSample (op : Op8) : Decoded :=
  if op.extractLsb' 3 2 = 0#2 then .operation (.sample (lvField op)) else .reserved (.pinSample op)

/-- Class 7, reset (30_encoding.md R47). -/
def decodeReset (op : Op8) : Decoded :=
  if argField op = 31#5 then .operation .reset else .reserved (.resetClass op)

/-- The code map of 30_encoding.md R47; every code outside it is refused by name (R51). -/
def decodeOp (op : Op8) : Decoded :=
  match (clsField op).toNat with
  | 0 => decodeButtonEvent op
  | 1 => decodeMainLoop op
  | 2 => decodeTime op
  | 3 => decodePinSample op
  | 7 => decodeReset op
  | _ => .reserved (.unusedClass op)

/-- Why a string of bytes does not begin with an operation. -/
inductive DecodeError where
  | noByte                    -- there is no byte to read
  | reserved (r : Reserved)   -- the first byte is a reserved code
deriving DecidableEq, Repr

/-- Reads one operation from a string of bytes, and what is left of it: every code is one byte (30_encoding.md R46). -/
def decode : List Op8 → Except DecodeError (Instr × List Op8)
  | [] => .error .noByte
  | op :: rest =>
    match decodeOp op with
    | .operation i => .ok (i, rest)
    | .reserved r => .error (.reserved r)

/-- Reads a whole string of bytes as a trace; none where a code in it is reserved (30_encoding.md R51, R56). -/
def decodeTrace : List Op8 → Option (List Instr)
  | [] => some []
  | op :: rest =>
    match decodeOp op with
    | .operation i => (decodeTrace rest).map (i :: ·)
    | .reserved _ => none

/-! ## Encoding -/

/-- A code from its two fields (30_encoding.md R46). -/
def opCode (cls : BitVec 3) (arg : BitVec 5) : Op8 := cls ++ arg

/-- The code of an operation, from the columns `cls` and `arg` of 30_encoding.md R47. -/
def encodeOp : Instr → Op8
  | .edgeInc => opCode 0#3 0#5
  | .edgeDec => opCode 0#3 1#5
  | .edgeTog => opCode 0#3 2#5
  | .edgeUnk => opCode 0#3 3#5
  | .blink => opCode 1#3 0#5
  | .pixel => opCode 1#3 1#5
  | .sleep => opCode 1#3 2#5
  | .wake => opCode 1#3 3#5
  | .tick => opCode 2#3 0#5
  | .sample lv => opCode 3#3 (0#2 ++ lv)
  | .reset => opCode 7#3 31#5

/-- The bytes of an operation: one (30_encoding.md R46). -/
def encode (i : Instr) : List Op8 := [encodeOp i]

/-- The bytes of a trace, in execution order (30_encoding.md R56). -/
def encodeTrace (ops : List Instr) : List Op8 := ops.flatMap encode

/-- One row of the code map of 30_encoding.md R47, as match and mask. -/
structure CodeRow where
  mnemonic : String
  value : Op8
  mask : Op8
deriving DecidableEq, Repr

/-- The match and mask columns of 30_encoding.md R47. -/
def codeMap : List CodeRow :=
  [⟨"EDGE_INC", 0x00#8, 0xFF#8⟩, ⟨"EDGE_DEC", 0x01#8, 0xFF#8⟩, ⟨"EDGE_TOG", 0x02#8, 0xFF#8⟩,
   ⟨"EDGE_UNK", 0x03#8, 0xFF#8⟩, ⟨"BLINK", 0x20#8, 0xFF#8⟩, ⟨"PIXEL", 0x21#8, 0xFF#8⟩,
   ⟨"SLEEP", 0x22#8, 0xFF#8⟩, ⟨"WAKE", 0x23#8, 0xFF#8⟩, ⟨"TICK", 0x40#8, 0xFF#8⟩,
   ⟨"SAMPLE", 0x60#8, 0xF8#8⟩, ⟨"RESET", 0xFF#8, 0xFF#8⟩]

/-- A code is the operation of a row exactly when `(op & mask) = match` (30_encoding.md R47). -/
def CodeRow.covers (r : CodeRow) (op : Op8) : Bool := op &&& r.mask == r.value

/-! ## The pin identifier decode -/

/-- `decode_pin` (30_encoding.md R50): the operation an interrupt event with pin `p` is. -/
def decodePin (c : Config) (p : PinId) : Instr :=
  if p = c.pinInc then .edgeInc
  else if p = c.pinDec then .edgeDec
  else if p = c.pinTog then .edgeTog
  else .edgeUnk

/-! ## The opcode table's numbering -/

/-- The bytes of an instruction whose bits are `w`, the first byte in the least significant bits (log 19). -/
def bytesOfWord : Nat → Nat → List Op8
  | 0, _ => []
  | n + 1, w => BitVec.ofNat 8 w :: bytesOfWord n (w / 256)

/-- The instruction the decoder reads from an instruction of `nbits` bits whose bits are `w` (log 19). -/
def decodeTableWord (nbits w : Nat) : Option Instr :=
  match decode (bytesOfWord ((nbits + 7) / 8) (w % 2 ^ nbits)) with
  | .ok (i, _) => some i
  | .error _ => none

end Sys2Proof
end

