-- ==== Sys2Proof/Machine/State.lean ====
section
/-!
DEFINITION. The state of `BTNMAT` (spec/10_state.md R11 to R23), its reset value, and the reasons a step can stop.
-/

namespace Sys2Proof.Machine

/-- The register `phase` of the sequencer (10_state.md R20); all four codes of its 2 bits are used (log 18). -/
inductive Phase where
  | blink    -- `P_BLINK`, 0
  | render   -- `P_RENDER`, 1
  | sleep    -- `P_SLEEP`, 2
  | wait     -- `P_WAIT`, 3
deriving DecidableEq, Repr

/-- The 2-bit value of `phase` (10_state.md R20). -/
def Phase.code : Phase → BitVec 2
  | .blink => 0#2
  | .render => 1#2
  | .sleep => 2#2
  | .wait => 3#2

/-- The state. `digit` to `fault` are the registers of 10_state.md R23; `cfg` is the configuration (log 1), and `tx`, `txMark`,
`inputs` and `freeCount` are the model's own (log 4, 6, 7). Timestamps are naturals, kept below `2^TW` by the operations
(log 3). 1-bit registers are Booleans (log 18). -/
structure State where
  /-- The parameters (00_scope.md R4, R5); no operation writes them. -/
  cfg : Config
  /-- `digit` (R11). -/
  digit : Digit
  /-- `en` (R12). -/
  en : Bool
  /-- `buf`, the array `BUF` (R13, 20_memory.md R30). -/
  buf : Mask25
  /-- `last_acc[0]` (R14). -/
  lastAccInc : Nat
  /-- `last_acc[1]` (R14). -/
  lastAccDec : Nat
  /-- `last_acc[2]` (R14). -/
  lastAccTog : Nat
  /-- `last_tog` (R15). -/
  lastTog : Nat
  /-- `ind` (R16). -/
  ind : Bool
  /-- `status_out` (R17). -/
  statusOut : Bool
  /-- `now` (R18). -/
  now : Nat
  /-- `btn_prev[0..2]`, bit `b` is button `b` (R19). -/
  btnPrev : Levels
  /-- `phase` (R20). -/
  phase : Phase
  /-- `idx` (R20). -/
  idx : BitVec 5
  /-- `sleep_start` (R21). -/
  sleepStart : Nat
  /-- `fault`, bit 0 `UnknownPin`, bit 1 `InvalidDigit` (R22). -/
  fault : BitVec 2
  /-- Every word handed to the pixel transmitter, in order of emission (00_scope.md R8; log 6). -/
  tx : List Color24
  /-- How many words `tx` held at the latest `RESET` (log 6). -/
  txMark : Nat
  /-- What the environment will do next, the first first (00_scope.md R6; log 4). -/
  inputs : List Stimulus
  /-- How many free values have been used (log 7). -/
  freeCount : Nat
deriving DecidableEq, Repr

/-- Why a step stops with a fault. -/
inductive Fault where
  /-- Raised by `PIXEL` in a state with `idx` in 25..31: that cell of `BUF` does not exist (20_memory.md R30) and no run from
  reset reads it. SAFE: the model stops where the spec gives no value (log 10). -/
  | noSuchCell (idx : BitVec 5)
deriving DecidableEq, Repr

/-- Why a step has no meaning. -/
inductive Refusal where
  /-- Answered by an arm of `exec` whose operation has no meaning yet; no arm does. SAFE. -/
  | notModelled (mnemonic : String)
  /-- Answered by `step` when the environment offers a reserved code: "a decoder refuses it by name and the machine takes no
  step for it" (30_encoding.md R51). SAFE (log 9). -/
  | reservedCode (r : Reserved)
  /-- Answered by `BLINK`, `PIXEL`, `SLEEP` and `WAKE` where the sequencer, or for `WAKE` the time guard, does not enable them:
  "a model refuses the trace; it does not skip the operation" (30_encoding.md R52). SAFE (log 8). -/
  | notEnabled (i : Instr)
deriving DecidableEq, Repr

/-- The machine right after reset with the parameters `c`: every register at the value of 10_state.md section 7, nothing sent
and nothing offered by the environment. -/
def State.resetFor (c : Config) : State where
  cfg := c
  digit := 0#4
  en := true
  buf := c.pattern[0]
  lastAccInc := 0
  lastAccDec := 0
  lastAccTog := 0
  lastTog := 0
  ind := false
  statusOut := !c.statusOnLevel
  now := 0
  btnPrev := 0b111#3
  phase := .blink
  idx := 0#5
  sleepStart := 0
  fault := 0#2
  tx := []
  txMark := 0
  inputs := []
  freeCount := 0

/-- The machine right after reset (70_reset_and_hazards.md R120, R121), with the hardware's parameters (log 2). -/
def State.reset : State := State.resetFor Config.hardware

end Sys2Proof.Machine
end

