-- ==== Sys2Proof/Machine/Operands.lean ====
section
/-!
DEFINITION. The operand forms of `BTNMAT`: the pin levels of `SAMPLE` (spec/30_encoding.md R48), the register arrays named by a
button, and the two index operands `digit` (into `ROM`) and `idx` (into `BUF`) (spec/20_memory.md R30, R36).
-/

namespace Sys2Proof.Machine

/-- Bit `b` of three pin levels: 1 is released, 0 is pressed (30_encoding.md R48). -/
def levelOf (v : Levels) (b : Button) : Bool := v.getLsbD b.index

/-- A falling edge of button `b`: previous level 1, present level 0 (10_state.md R19, 40_button_input.md R60, R61). -/
def fallingEdge (prev lv : Levels) (b : Button) : Bool := levelOf prev b && !levelOf lv b

/-- `last_acc[b]` (10_state.md R14). -/
def State.lastAcc (s : State) : Button → Nat
  | .inc => s.lastAccInc
  | .dec => s.lastAccDec
  | .tog => s.lastAccTog

/-- `MemRead(ROM, d, 25)`; none for an entry 10 to 15, which does not exist (20_memory.md R30, R31). -/
def romRead (c : Config) (d : Digit) : Option Mask25 :=
  if h : d.toNat < 10 then some c.pattern[d.toNat] else none

/-- `MemRead(BUF, i, 1)`; none for a cell 25 to 31, which does not exist (20_memory.md R30, R33). -/
def bufRead (m : Mask25) (i : BitVec 5) : Option Bool :=
  if i.toNat < nCells then some (m.getLsbD i.toNat) else none

/-- `elapsed(t) = (now - t) mod 2^TW`, the remainder taken non-negative (00_scope.md R7 and its section 6). -/
def State.elapsed (s : State) (t : Nat) : Nat :=
  (((s.now : Int) - (t : Int)) % ((2 ^ s.cfg.tw : Nat) : Int)).toNat

/-- `(digit + 1) mod 10`, on naturals (40_button_input.md R64, R70). -/
def digitUp (d : Digit) : Digit := BitVec.ofNat 4 ((d.toNat + 1) % 10)

/-- `(digit - 1 + 10) mod 10`, without wrap or borrow: `digit + 9` (40_button_input.md R65, R70). -/
def digitDown (d : Digit) : Digit := BitVec.ofNat 4 ((d.toNat + 9) % 10)

end Sys2Proof.Machine
end

