-- ==== Sys2Proof/Machine/Flags.lean ====
section
/-!
DEFINITION. The flags of `BTNMAT`: `en`, `ind` with the output level it drives, and the sticky bits of `fault`
(spec/10_state.md R12, R16, R17, R22; every "Flags written" line of the operation rules).
-/

namespace Sys2Proof.Machine

/-- The two invariant violations of 60_exceptions.md R100. -/
inductive Violation where
  | unknownPin     -- code 1
  | invalidDigit   -- code 2
deriving DecidableEq, Repr

/-- The exception codes: the bit positions in `fault` plus one (60_exceptions.md R100). -/
def Violation.code : Violation → Nat
  | .unknownPin => 1
  | .invalidDigit => 2

/-- The bit of `fault` a violation sets (10_state.md R22). -/
def Violation.bit (x : Violation) : BitVec 2 := 1#2 <<< (x.code - 1)

/-- The level of `status_out` for a state of the indicator (10_state.md R17). -/
def statusLevel (c : Config) (ind : Bool) : Bool := if ind then c.statusOnLevel else !c.statusOnLevel

/-- `en <- v` (40_button_input.md R66). -/
def State.setEn (s : State) (v : Bool) : State := { s with en := v }

/-- `ind <- v` (42_status_blinker.md R85). -/
def State.setInd (s : State) (v : Bool) : State := { s with ind := v }

/-- `drive(status_out, lv)` (00_scope.md section 6). -/
def State.drive (s : State) (lv : Bool) : State := { s with statusOut := lv }

/-- `fault <- v`. -/
def State.setFault (s : State) (v : BitVec 2) : State := { s with fault := v }

end Sys2Proof.Machine
end

