-- ==== Sys2Proof/Machine/Ops.lean ====
section
/-!
DEFINITION. The named operations over the registers and the two arrays, and the taking of an exception. The primitives are those of
spec/00_scope.md section 6.
-/

namespace Sys2Proof.Machine

/-! ## Register writes -/

/-- `digit <- d`. -/
def State.setDigit (s : State) (d : Digit) : State := { s with digit := d }

/-- `MemWrite(BUF, 0, 25, m)`: all 25 cells at once (20_memory.md R34). -/
def State.bufWrite (s : State) (m : Mask25) : State := { s with buf := m }

/-- `last_acc[b] <- t`; the other two records keep their value (10_state.md R14). -/
def State.setLastAcc (s : State) (b : Button) (t : Nat) : State :=
  { s with
    lastAccInc := if b = .inc then t else s.lastAccInc
    lastAccDec := if b = .dec then t else s.lastAccDec
    lastAccTog := if b = .tog then t else s.lastAccTog }

/-- `last_tog <- t`. -/
def State.setLastTog (s : State) (t : Nat) : State := { s with lastTog := t }

/-- `now <- t`. -/
def State.setNow (s : State) (t : Nat) : State := { s with now := t }

/-- `btn_prev <- lv`, all three bits. -/
def State.setBtnPrev (s : State) (lv : Levels) : State := { s with btnPrev := lv }

/-- `pc <- (p, i)` (00_scope.md section 6, 10_state.md R20). -/
def State.setPc (s : State) (p : Phase) (i : BitVec 5) : State := { s with phase := p, idx := i }

/-- `sleep_start <- t`. -/
def State.setSleepStart (s : State) (t : Nat) : State := { s with sleepStart := t }

/-- `emit(w)`: append the word to the pixel stream (00_scope.md R8, 41_matrix_renderer.md R80). -/
def State.emit (s : State) (w : Color24) : State := { s with tx := s.tx ++ [w] }

/-- Notes where the pixel stream stands, for "since reset" (00_scope.md R8; log 6). -/
def State.markTx (s : State) : State := { s with txMark := s.tx.length }

/-- What the environment will do next (log 4). -/
def State.setInputs (s : State) (l : List Stimulus) : State := { s with inputs := l }

/-- One more free value has been used (log 7). -/
def State.useFree (s : State) : State := { s with freeCount := s.freeCount + 1 }

/-! ## Exceptions -/

/-- Taking an exception: `raise X()` sets the sticky bit of `X` and does nothing else (60_exceptions.md R103). It saves no pc and
no status, changes no mode and goes nowhere, so there is no return from it either (R107, R108): the operation that raised it goes
on. -/
def State.raise (s : State) (x : Violation) : State := s.setFault (s.fault ||| x.bit)

/-! ## The cell buffer -/

/-- `buf <- any value`: a mask the spec leaves unspecified, a new one each time (93_implementation_defined.md U2; log 7). -/
def State.bufWriteFree (s : State) : State := (s.bufWrite (Config.freeMask s.freeCount)).useFree

/-- `refresh()`: the pattern of the current digit into the buffer; with `digit > 9` the read raises `InvalidDigit` and the mask
written is unspecified (40_button_input.md R63, 60_exceptions.md R102). -/
def State.refresh (s : State) : State :=
  match romRead s.cfg s.digit with
  | some m => s.bufWrite m
  | none => (s.raise .invalidDigit).bufWriteFree

/-- `clear()`: every cell false (40_button_input.md R63). -/
def State.clear (s : State) : State := s.bufWrite 0#25

/-! ## The debounce decision -/

/-- `debounce(b)`: none where the event is discarded, else the state with `last_acc[b] <- now` (40_button_input.md R62). -/
def State.debounce (s : State) (b : Button) : Option State :=
  if s.elapsed (s.lastAcc b) ≤ s.cfg.tDebounce then none else some (s.setLastAcc b s.now)

/-- An edge operation of button `b`: nothing at all where the event is discarded, else the button's action on the state in which
it has been accepted (40_button_input.md R62, R68). -/
def State.onEdge (s : State) (b : Button) (action : State → State) : State :=
  match s.debounce b with
  | none => s
  | some accepted => action accepted

/-! ## Guards of the main loop -/

/-- The time guard of `WAKE` (43_main_loop.md R93). -/
def State.sleepOver (s : State) : Bool := decide (s.cfg.tSleep ≤ s.elapsed s.sleepStart)

/-- The condition under which `BLINK` toggles (42_status_blinker.md R85). -/
def State.blinkDue (s : State) : Bool := decide (s.cfg.tBlink ≤ s.elapsed s.lastTog)

/-- Enabledness (30_encoding.md R52). -/
def enabled (i : Instr) (s : State) : Bool :=
  match i with
  | .edgeInc => true
  | .edgeDec => true
  | .edgeTog => true
  | .edgeUnk => true
  | .sample _ => true
  | .tick => true
  | .reset => true
  | .blink => decide (s.phase = .blink)
  | .pixel => decide (s.phase = .render)
  | .sleep => decide (s.phase = .sleep)
  | .wake => decide (s.phase = .wait) && s.sleepOver

end Sys2Proof.Machine
end

