-- ==== Sys2Proof/Machine/Blinker.lean ====
section
/-!
DEFINITION. The status blinker: `BLINK` (spec/42_status_blinker.md R85).
-/

namespace Sys2Proof.Machine

/-- The toggle of `BLINK`: the indicator flips, the output follows the new indicator, and the time of the toggle is the time of
the poll (R85). -/
def State.toggleIndicator (s : State) : State :=
  let flipped := s.setInd (!s.ind)
  (flipped.drive (statusLevel s.cfg flipped.ind)).setLastTog s.now

/-- `BLINK` (R85), enabled in `P_BLINK` (30_encoding.md R52): at most one toggle, and in either case on to the sweep. -/
def execBlink (s : State) : Host.Outcome State Fault Refusal :=
  if s.phase = .blink then
    .next ((if s.blinkDue then s.toggleIndicator else s).setPc .render 0#5)
  else .refused (.notEnabled .blink)

end Sys2Proof.Machine
end

