-- ==== Sys2Proof/Machine/ButtonInput.lean ====
section
/-!
DEFINITION. The button class: `EDGE_INC`, `EDGE_DEC`, `EDGE_TOG`, `EDGE_UNK` and `SAMPLE` (spec/40_button_input.md).
-/

namespace Sys2Proof.Machine

/-- The action of the increment button (R64). -/
def incAction (s : State) : State := (s.setDigit (digitUp s.digit)).refresh

/-- The action of the decrement button (R65). -/
def decAction (s : State) : State := (s.setDigit (digitDown s.digit)).refresh

/-- The action of the toggle-display button: flip `en`; now enabled, refresh; now disabled, clear (R66). -/
def togAction (s : State) : State :=
  let flipped := s.setEn (!s.en)
  if flipped.en then flipped.refresh else flipped.clear

/-- The whole edge operation of a button, debounce decision and action (R62, R64 to R66). -/
def performEdge (b : Button) (s : State) : State :=
  match b with
  | .inc => s.onEdge .inc incAction
  | .dec => s.onEdge .dec decAction
  | .tog => s.onEdge .tog togAction

/-- `EDGE_INC` (R64). -/
def execEdgeInc (s : State) : Host.Outcome State Fault Refusal := .next (performEdge .inc s)

/-- `EDGE_DEC` (R65). -/
def execEdgeDec (s : State) : Host.Outcome State Fault Refusal := .next (performEdge .dec s)

/-- `EDGE_TOG` (R66). -/
def execEdgeTog (s : State) : Host.Outcome State Fault Refusal := .next (performEdge .tog s)

/-- `EDGE_UNK`: an interrupt event of an unknown pin. Recorded in a test build, nothing in production (R67,
60_exceptions.md R101). -/
def execEdgeUnk (s : State) : Host.Outcome State Fault Refusal :=
  .next (if s.cfg.strict then s.raise .unknownPin else s)

/-- One turn of the loop of `SAMPLE`: button `b`'s edge operation where its level has fallen since the previous sample (R60). -/
def sampleButton (lv : Levels) (b : Button) (s : State) : State :=
  if fallingEdge s.btnPrev lv b then performEdge b s else s

/-- `SAMPLE lv`: the buttons in the order 0, 1, 2, then the present levels are remembered (R60). -/
def execSample (lv : Levels) (s : State) : Host.Outcome State Fault Refusal :=
  let afterInc := sampleButton lv .inc s
  let afterDec := sampleButton lv .dec afterInc
  let afterTog := sampleButton lv .tog afterDec
  .next (afterTog.setBtnPrev lv)

end Sys2Proof.Machine
end

