-- ==== Sys2Proof/Machine/MainLoop.lean ====
section
/-!
DEFINITION. The sleep of the main loop and the passing of time: `SLEEP`, `WAKE`, `TICK` (spec/43_main_loop.md R92, R93, R95).
-/

namespace Sys2Proof.Machine

/-- `SLEEP` (R92), enabled in `P_SLEEP` (30_encoding.md R52). -/
def execSleep (s : State) : Host.Outcome State Fault Refusal :=
  if s.phase = .sleep then .next ((s.setSleepStart s.now).setPc .wait 0#5) else .refused (.notEnabled .sleep)

/-- `WAKE` (R93), enabled in `P_WAIT` once the sleep has lasted `T_SLEEP`; a later wake is allowed too (log 15). -/
def execWake (s : State) : Host.Outcome State Fault Refusal :=
  if s.phase = .wait ∧ s.sleepOver = true then .next (s.setPc .blink 0#5) else .refused (.notEnabled .wake)

/-- `TICK`: one millisecond passes, `now <- (now + 1) mod 2^TW` (R95). -/
def execTick (s : State) : Host.Outcome State Fault Refusal := .next (s.setNow ((s.now + 1) % 2 ^ s.cfg.tw))

end Sys2Proof.Machine
end

