-- ==== Sys2Proof/Machine/Renderer.lean ====
section
/-!
DEFINITION. The matrix renderer: `PIXEL` (spec/41_matrix_renderer.md R75).
-/

namespace Sys2Proof.Machine

/-- The word of one cell: the active colour where the cell is set and the display is enabled, else off (R75, R78). -/
def cellColor (c : Config) (cell en : Bool) : Color24 := if cell && en then c.colorActive else colorOff

/-- The sequencer after one cell: the next cell, or the end of the sweep after cell 24 (R75, 43_main_loop.md R90). -/
def State.advanceSweep (s : State) : State :=
  if s.idx = 24#5 then s.setPc .sleep 0#5 else s.setPc .render (s.idx + 1#5)

/-- `PIXEL` (R75), enabled in `P_RENDER` (30_encoding.md R52). A cell 25 to 31 does not exist (20_memory.md R30; log 10). -/
def execPixel (s : State) : Host.Outcome State Fault Refusal :=
  if s.phase = .render then
    match bufRead s.buf s.idx with
    | some cell => .next (s.emit (cellColor s.cfg cell s.en)).advanceSweep
    | none => .fault (.noSuchCell s.idx)
  else .refused (.notEnabled .pixel)

end Sys2Proof.Machine
end

