-- ==== Sys2Proof/Machine/Reset.lean ====
section
/-!
DEFINITION. `RESET` (spec/70_reset_and_hazards.md R120).
-/

namespace Sys2Proof.Machine

/-- `RESET`, enabled always: every register takes its reset value, in one step; nothing is emitted and what was sent stays sent
(R120). The configuration, the environment's list and the count of free values are no registers and stay (log 20). -/
def execReset (s : State) : Host.Outcome State Fault Refusal :=
  .next
    { s.markTx with
      digit := resetDigit
      en := true
      buf := s.cfg.pattern[0]
      lastAccInc := 0
      lastAccDec := 0
      lastAccTog := 0
      lastTog := 0
      ind := false
      statusOut := statusLevel s.cfg false
      now := 0
      btnPrev := 0b111#3
      phase := .blink
      idx := 0#5
      sleepStart := 0
      fault := 0#2 }

end Sys2Proof.Machine
end

