-- ==== Sys2Proof/Machine/Dispatch.lean ====
section
/-! DEFINITION. What each operation does: one arm per constructor of `Instr`. -/

namespace Sys2Proof.Machine

def exec (i : Instr) (s : State) : Host.Outcome State Fault Refusal :=
  match i with
  | .edgeInc => Sys2Proof.Machine.execEdgeInc s
  | .edgeDec => Sys2Proof.Machine.execEdgeDec s
  | .edgeTog => Sys2Proof.Machine.execEdgeTog s
  | .edgeUnk => Sys2Proof.Machine.execEdgeUnk s
  | .blink => Sys2Proof.Machine.execBlink s
  | .pixel => Sys2Proof.Machine.execPixel s
  | .sleep => Sys2Proof.Machine.execSleep s
  | .wake => Sys2Proof.Machine.execWake s
  | .tick => Sys2Proof.Machine.execTick s
  | .sample lv => Sys2Proof.Machine.execSample lv s
  | .reset => Sys2Proof.Machine.execReset s

end Sys2Proof.Machine
end

