-- ==== Sys2Proof/Machine/Fetch.lean ====
section
/-!
DEFINITION. Which operation the next step is: what the environment offers first (spec/00_scope.md R6, spec/30_encoding.md R50, R51),
or, where it offers nothing, what the block does by itself (spec/43_main_loop.md R90, R93).
-/

namespace Sys2Proof.Machine

/-- The one main-loop operation that is the candidate in a state: the sequencer selects it (10_state.md R20, 30_encoding.md R52). -/
def State.candidate (s : State) : Instr :=
  match s.phase with
  | .blink => .blink
  | .render => .pixel
  | .sleep => .sleep
  | .wait => .wake

/-- What happens where the environment offers nothing: the main loop's operation if it is enabled, else a millisecond passes, so
that the block wakes at the first millisecond at which it can (43_main_loop.md R90, R93, R96; log 5). -/
def State.ownOperation (s : State) : Instr := if enabled s.candidate s then s.candidate else .tick

/-- The operation of the next step and the state in which it runs, or the reserved code that stands in its place. -/
def State.fetch (s : State) : Except Reserved (Instr × State) :=
  match s.inputs with
  | [] => .ok (s.ownOperation, s)
  | .pin p :: rest => .ok (decodePin s.cfg p, s.setInputs rest)
  | .code op :: rest =>
    match decodeOp op with
    | .operation i => .ok (i, s.setInputs rest)
    | .reserved r => .error r

/-- Sets the sequencer, and for `WAKE` the time guard, so that a main-loop operation is the enabled one; changes nothing where it
already is (30_encoding.md R52; log 11). -/
def State.selecting (s : State) (i : Instr) : State :=
  if enabled i s then s else
  match i with
  | .blink => s.setPc .blink 0#5
  | .pixel => s.setPc .render 0#5
  | .sleep => s.setPc .sleep 0#5
  | .wake => (s.setPc .wait 0#5).setSleepStart (s.elapsed s.cfg.tSleep)
  | .edgeInc => s
  | .edgeDec => s
  | .edgeTog => s
  | .edgeUnk => s
  | .tick => s
  | .sample _ => s
  | .reset => s

/-- Puts an operation code first in what the environment offers, and selects its operation where it is one. -/
def State.offering (s : State) (op : Op8) : State :=
  match decodeOp op with
  | .operation i => (s.selecting i).setInputs (.code op :: s.inputs)
  | .reserved _ => s.setInputs (.code op :: s.inputs)

end Sys2Proof.Machine
end

