-- ==== Sys2Proof/Machine/Step.lean ====
section
/-!
DEFINITION. One step of `BTNMAT`: one atomic operation (spec/00_scope.md R6).
-/

namespace Sys2Proof.Machine

/-- One step: the operation the environment offers first, or the block's own, runs to completion (00_scope.md R6); no step is
taken for a reserved code (30_encoding.md R51). -/
def step (s : State) : Host.Outcome State Fault Refusal :=
  match s.fetch with
  | .ok (i, ready) => exec i ready
  | .error r => .refused (.reservedCode r)

/-- `s` with the code in the low byte of `w` offered first, and its operation selected by the sequencer, so that the very next
step runs it (log 11). -/
def State.withFetchWord (s : State) (nbits w : Nat) : State := s.offering (BitVec.ofNat 8 (w % 2 ^ nbits))

end Sys2Proof.Machine
end

