-- ==== Sys2Proof/Machine/Trace.lean ====
section
/-!
DEFINITION. Traces: running a list of operations, the pseudo-operations and the trace notation of spec/30_encoding.md R56.
-/

namespace Sys2Proof.Machine

/-- Runs the operations of a trace in order; stops at the first fault or refusal, since a trace that names an operation which is
not enabled is no execution (30_encoding.md R52). -/
def runOps : List Instr → State → Host.Outcome State Fault Refusal
  | [], s => .next s
  | i :: rest, s =>
    match exec i s with
    | .next t => runOps rest t
    | .fault r => .fault r
    | .refused r => .refused r

/-- The edge operation of a button: `EDGE b` (30_encoding.md R56). -/
def edgeOp : Button → Instr
  | .inc => .edgeInc
  | .dec => .edgeDec
  | .tog => .edgeTog

/-- The pin levels with one button pressed and the other two released (30_encoding.md R56). -/
def pressedOnly : Button → Levels
  | .inc => 0b110#3
  | .dec => 0b101#3
  | .tog => 0b011#3

/-- An item of a trace: an operation or a pseudo-operation (30_encoding.md R56). -/
inductive TraceItem where
  | op (i : Instr)
  | ticks (n : Nat)      -- `TICK n`
  | edge (b : Button)    -- `EDGE b`
  | press (b : Button)   -- `PRESS b`
  | render               -- `RENDER`
  | iter                 -- `ITER`
  | iter0                -- `ITER0`
deriving DecidableEq, Repr

/-- The expansion column of 30_encoding.md R56. -/
def TraceItem.expand : TraceItem → List Instr
  | .op i => [i]
  | .ticks n => List.replicate n .tick
  | .edge b => [edgeOp b]
  | .press b => [.sample (pressedOnly b), .sample 0b111#3]
  | .render => List.replicate 25 .pixel
  | .iter => [.blink] ++ List.replicate 25 .pixel ++ [.sleep] ++ List.replicate 100 .tick ++ [.wake]
  | .iter0 => [.blink] ++ List.replicate 25 .pixel ++ [.sleep]

/-- The precondition column of 30_encoding.md R56; an operation's own precondition is that it is enabled (R52). -/
def TraceItem.ready (x : TraceItem) (s : State) : Bool :=
  match x with
  | .op i => enabled i s
  | .ticks _ => true
  | .edge _ => true
  | .press _ => decide (s.btnPrev = 0b111#3)
  | .render => decide (s.phase = .render) && decide (s.idx = 0#5)
  | .iter => decide (s.phase = .blink)
  | .iter0 => decide (s.phase = .blink)

/-- A trace with its pseudo-operations written out. -/
def expandTrace (l : List TraceItem) : List Instr := l.flatMap TraceItem.expand

/-- The operand of `SAMPLE` as three binary digits `lv[2] lv[1] lv[0]` (30_encoding.md R56). -/
def levelsText (lv : Levels) : String :=
  let digit := fun b : Bool => if b then "1" else "0"
  digit (lv.getLsbD 2) ++ digit (lv.getLsbD 1) ++ digit (lv.getLsbD 0)

/-- One operation in the trace notation (30_encoding.md R56). -/
def opText (i : Instr) : String :=
  match i with
  | .sample lv => i.mnemonic ++ " " ++ levelsText lv
  | .edgeInc => i.mnemonic
  | .edgeDec => i.mnemonic
  | .edgeTog => i.mnemonic
  | .edgeUnk => i.mnemonic
  | .blink => i.mnemonic
  | .pixel => i.mnemonic
  | .sleep => i.mnemonic
  | .wake => i.mnemonic
  | .tick => i.mnemonic
  | .reset => i.mnemonic

/-- A trace in the notation of 30_encoding.md R56: items separated by a semicolon. -/
def traceText : List Instr → String
  | [] => ""
  | [i] => opText i
  | i :: rest => opText i ++ " ; " ++ traceText rest

end Sys2Proof.Machine
end

