-- ==== Sys2Proof/Safety.lean ====
section
/-!
DEFINITION. The terms claims are made in: the invariants of spec/10_state.md R24, the fault states of spec/60_exceptions.md R103,
the observations of spec/00_scope.md R8, frames, and the executions the environment and the main loop may make (R6, R96).
-/

namespace Sys2Proof.Machine

/-! ## Good states and invariants -/

/-- No violation has been recorded; a state with `fault != 0` is never a good state of a claim (60_exceptions.md R103). -/
abbrev Good (s : State) : Prop := s.fault = 0#2

/-- The entry of the pattern table for a digit 0 to 9. -/
def maskFor (c : Config) (d : Fin 10) : Mask25 := c.pattern[d]

/-- (I1): `digit <= 9`. -/
abbrev DigitLegal (s : State) : Prop := s.digit.toNat ≤ 9

/-- (I2): if `en = 1` then `buf = PATTERN[digit]`. -/
abbrev BufShowsDigit (s : State) : Prop := s.en = true → s.buf = maskFor s.cfg (Fin.ofNat 10 s.digit.toNat)

/-- (I3): if `en = 0` then `buf = 0` or `buf = PATTERN[digit]`. -/
abbrev BufDarkOrDigit (s : State) : Prop :=
  s.en = false → s.buf = 0#25 ∨ s.buf = maskFor s.cfg (Fin.ofNat 10 s.digit.toNat)

/-- (I4): `idx <= 24`, and `idx = 0` when `phase != P_RENDER`. -/
abbrev IdxLegal (s : State) : Prop := s.idx.toNat ≤ 24 ∧ (s.phase ≠ .render → s.idx = 0#5)

/-- (I5): `status_out = STATUS_ON_LEVEL` exactly when `ind = 1`. -/
abbrev StatusFollowsInd (s : State) : Prop := s.statusOut = s.cfg.statusOnLevel ↔ s.ind = true

/-- The invariants (I1) to (I5) of 10_state.md R24. -/
abbrev StateInv (s : State) : Prop :=
  DigitLegal s ∧ BufShowsDigit s ∧ BufDarkOrDigit s ∧ IdxLegal s ∧ StatusFollowsInd s

/-- Every timestamp and `now` is a `TW`-bit value (10_state.md R14, R15, R18, R21). -/
abbrev TimesFit (s : State) : Prop :=
  s.now < 2 ^ s.cfg.tw ∧ s.lastAccInc < 2 ^ s.cfg.tw ∧ s.lastAccDec < 2 ^ s.cfg.tw ∧
    s.lastAccTog < 2 ^ s.cfg.tw ∧ s.lastTog < 2 ^ s.cfg.tw ∧ s.sleepStart < 2 ^ s.cfg.tw

/-! ## Observations -/

/-- The pixel stream since the latest reset (00_scope.md R8). -/
def State.txSinceReset (s : State) : List Color24 := s.tx.drop s.txMark

/-- The observable outputs (00_scope.md R8): the pixel stream since reset and the level of the status output. -/
def State.outputs (s : State) : List Color24 × Bool := (s.txSinceReset, s.statusOut)

/-- Word `k` of a complete sweep, with the given enable flag and buffer (41_matrix_renderer.md R76). -/
def frameWord (c : Config) (en : Bool) (buf : Mask25) (k : Nat) : Color24 :=
  if en && buf.getLsbD k then c.colorActive else colorOff

/-- Format `FRAME`: the 25 words of one sweep, word `k` the colour of cell `k` (30_encoding.md R55). -/
def frameOf (c : Config) (en : Bool) (buf : Mask25) : List Color24 := (List.range 25).map (frameWord c en buf)

/-- Only the two colours are ever sent (41_matrix_renderer.md R81). -/
abbrev TwoColours (s : State) : Prop := ∀ w ∈ s.tx, w = s.cfg.colorActive ∨ w = colorOff

/-- Since the latest reset the stream is a number of complete frames and then the words of the cells before `idx`
(41_matrix_renderer.md R81). -/
abbrev StreamFramed (s : State) : Prop := s.txMark ≤ s.tx.length ∧ s.txSinceReset.length % 25 = s.idx.toNat

/-- Two states that differ at most in a buffer no frame can show, because the display is disabled (10_state.md R24 I6). -/
def SameButHiddenBuf (s t : State) : Prop :=
  t = { s with buf := t.buf } ∧ (s.en = true → t.buf = s.buf)

/-! ## What each context may write (10_state.md R23, 20_memory.md R39 d) -/

/-- The main context's registers have the same value. -/
def SameMainContext (s t : State) : Prop :=
  t.lastTog = s.lastTog ∧ t.ind = s.ind ∧ t.statusOut = s.statusOut ∧ t.phase = s.phase ∧ t.idx = s.idx ∧
    t.sleepStart = s.sleepStart

/-- The interrupt context's registers have the same value. -/
def SameInterruptContext (s t : State) : Prop :=
  t.digit = s.digit ∧ t.en = s.en ∧ t.buf = s.buf ∧ t.lastAccInc = s.lastAccInc ∧ t.lastAccDec = s.lastAccDec ∧
    t.lastAccTog = s.lastAccTog ∧ t.btnPrev = s.btnPrev

/-- The fields that are no registers of the spec have the same value, the pixel stream aside. -/
def SameModelFields (s t : State) : Prop :=
  t.cfg = s.cfg ∧ t.txMark = s.txMark ∧ t.inputs = s.inputs ∧ t.freeCount = s.freeCount

/-! ## Executions (00_scope.md R6, 43_main_loop.md R96) -/

/-- The edge operations a sample of the levels `lv` performs after a sample of the levels `prev`: those of the buttons whose bit
was 1 and is 0, in ascending button order (40_button_input.md R60). -/
def fallenEdges (prev lv : Levels) : List Instr :=
  (if prev.getLsbD 0 && !lv.getLsbD 0 then [.edgeInc] else []) ++
    (if prev.getLsbD 1 && !lv.getLsbD 1 then [.edgeDec] else []) ++
    (if prev.getLsbD 2 && !lv.getLsbD 2 then [.edgeTog] else [])

/-- How many milliseconds pass in a trace (43_main_loop.md R96). -/
def ticksIn (ops : List Instr) : Nat := ops.count .tick

/-- The main-loop operations of a trace, in order. -/
def mainLoopOps (ops : List Instr) : List Instr := ops.filter (fun i => decide (i.opClass = .mainLoop))

/-- No event of button `b` occurs in a trace that begins with the previous levels `prev`: neither its edge operation nor a sample
that shows its level falling (40_button_input.md R60, R61). -/
def edgeFree (b : Button) : Levels → List Instr → Bool
  | _, [] => true
  | prev, i :: rest =>
    match i with
    | .edgeInc => decide (b ≠ .inc) && edgeFree b prev rest
    | .edgeDec => decide (b ≠ .dec) && edgeFree b prev rest
    | .edgeTog => decide (b ≠ .tog) && edgeFree b prev rest
    | .sample lv => !fallingEdge prev lv b && edgeFree b lv rest
    | .reset => edgeFree b 0b111#3 rest
    | .edgeUnk => edgeFree b prev rest
    | .blink => edgeFree b prev rest
    | .pixel => edgeFree b prev rest
    | .sleep => edgeFree b prev rest
    | .wake => edgeFree b prev rest
    | .tick => edgeFree b prev rest

/-- At most `bound` `TICK`s fall between a `WAKE` (or `RESET`) and the following `SLEEP`; `active` says whether the trace begins in
such a stretch, `seen` how many of its `TICK`s are over (43_main_loop.md R96). -/
def activeTicksWithin (bound : Nat) : Bool → Nat → List Instr → Bool
  | _, _, [] => true
  | active, seen, i :: rest =>
    match i with
    | .tick =>
      if active then decide (seen + 1 ≤ bound) && activeTicksWithin bound true (seen + 1) rest
      else activeTicksWithin bound false seen rest
    | .sleep => activeTicksWithin bound false 0 rest
    | .wake => activeTicksWithin bound true 0 rest
    | .reset => activeTicksWithin bound true 0 rest
    | .edgeInc => activeTicksWithin bound active seen rest
    | .edgeDec => activeTicksWithin bound active seen rest
    | .edgeTog => activeTicksWithin bound active seen rest
    | .edgeUnk => activeTicksWithin bound active seen rest
    | .blink => activeTicksWithin bound active seen rest
    | .pixel => activeTicksWithin bound active seen rest
    | .sample _ => activeTicksWithin bound active seen rest

/-- A trace from reset keeps to `T_ACTIVE_MAX`, where it is given (00_scope.md R5, 43_main_loop.md R96). -/
def respectsActiveMax (c : Config) (ops : List Instr) : Bool :=
  match c.tActiveMax with
  | none => true
  | some bound => activeTicksWithin bound true 0 ops

/-- An infinite execution: operation `n` takes state `n` to state `n + 1` (00_scope.md R6, R9). -/
def IsExecution (ops : Nat → Instr) (states : Nat → State) : Prop :=
  ∀ n, exec (ops n) (states n) = .next (states (n + 1))

/-- The main loop is weakly fair: a main-loop operation that stays enabled is eventually taken (43_main_loop.md R96). -/
def WeaklyFair (ops : Nat → Instr) (states : Nat → State) : Prop :=
  ∀ i, i.opClass = .mainLoop → ∀ n, (∀ m, n ≤ m → enabled i (states m) = true) → ∃ m, n ≤ m ∧ ops m = i

end Sys2Proof.Machine
end

