-- ==== Sys2Proof/Certificates/Slice0/Obligations.lean ====
section
/-!
DEFINITION. The statements for the provers. Each is about every state, hence about every configuration the state may carry
(log 1), unless it says otherwise.
-/

open Sys2Proof Sys2Proof.Machine

/-! ## Reset -/

/-- 10_state.md section 7, for any parameters; and the machine of `State.reset` is that of the hardware's parameters, the model's
choice (log 2), with nothing sent and nothing offered, the model's own fields (log 4, 6, 7). -/
def Obligations.ResetStateHasResetValues : Prop :=
  (∀ c : Config, ∀ s : State, s = State.resetFor c →
    s.digit = 0#4 ∧ s.en = true ∧ s.buf = maskFor c 0 ∧ s.lastAccInc = 0 ∧ s.lastAccDec = 0 ∧ s.lastAccTog = 0 ∧
    s.lastTog = 0 ∧ s.ind = false ∧ s.statusOut = !c.statusOnLevel ∧ s.now = 0 ∧ s.btnPrev = 0b111#3 ∧
    s.phase = .blink ∧ s.idx = 0#5 ∧ s.sleepStart = 0 ∧ s.fault = 0#2) ∧
  State.reset = State.resetFor Config.hardware

/-- R120: every register from any state, in one enabled step; the stream is kept; reset in the reset state changes nothing. That
`txMark` notes the length of the stream, and which fields that are no registers stay, is the model's choice (log 6, log 20). -/
def Obligations.ResetLoadsEveryRegister : Prop :=
  (∀ s : State, exec .reset s = .next
    { s with
      digit := 0#4, en := true, buf := maskFor s.cfg 0, lastAccInc := 0, lastAccDec := 0, lastAccTog := 0, lastTog := 0,
      ind := false, statusOut := !s.cfg.statusOnLevel, now := 0, btnPrev := 0b111#3, phase := .blink, idx := 0#5,
      sleepStart := 0, fault := 0#2, txMark := s.tx.length }) ∧
  (∀ c : Config, exec .reset (State.resetFor c) = .next (State.resetFor c))

/-- The invariants of R24 and R81 hold in the reset state of every configuration. That the recorded stream is empty there is the
model's choice (log 6). -/
def Obligations.ResetStateMeetsInvariants : Prop :=
  ∀ c : Config, ∀ s : State, s = State.resetFor c →
    StateInv s ∧ TimesFit s ∧ Good s ∧ StreamFramed s ∧ TwoColours s ∧ s.tx = []

/-! ## Time, sleep and the blinker -/

/-- R7: elapsed time is the difference modulo `2^TW`, taken non-negative. -/
def Obligations.ElapsedIsDifferenceModuloWidth : Prop :=
  ∀ (s : State) (t : Nat),
    s.elapsed t < 2 ^ s.cfg.tw ∧
    (∃ k : Int, (s.elapsed t : Int) = (s.now : Int) - (t : Int) + k * (2 ^ s.cfg.tw : Int)) ∧
    (t ≤ s.now → s.now - t < 2 ^ s.cfg.tw → s.elapsed t = s.now - t)

/-- R95: `TICK` is enabled in every state and writes `now` only. -/
def Obligations.TickAdvancesNowOnly : Prop :=
  ∀ s : State, exec .tick s = .next { s with now := (s.now + 1) % 2 ^ s.cfg.tw }

/-- R92: the guard and the effect; where the sequencer does not select it, `SLEEP` has no step (R52). -/
def Obligations.SleepRecordsItsStart : Prop :=
  ∀ s : State,
    (s.phase = .sleep → exec .sleep s = .next { s with sleepStart := s.now, phase := .wait, idx := 0#5 }) ∧
    (s.phase ≠ .sleep → exec .sleep s = .refused (.notEnabled .sleep))

/-- R93: the guard, with its phase and its time, and the effect; where either fails, `WAKE` has no step (R52). -/
def Obligations.WakeEndsSleepOnceOver : Prop :=
  ∀ s : State,
    (s.phase = .wait → s.cfg.tSleep ≤ s.elapsed s.sleepStart →
      exec .wake s = .next { s with phase := .blink, idx := 0#5 }) ∧
    (s.elapsed s.sleepStart < s.cfg.tSleep → exec .wake s = .refused (.notEnabled .wake)) ∧
    (s.phase ≠ .wait → exec .wake s = .refused (.notEnabled .wake))

/-- R85: due at `T_BLINK` exactly, one toggle, the output at the new indicator's level, `last_tog` the time of the poll; in either
case on to the sweep, and nothing else; where the sequencer does not select it, `BLINK` has no step (R52). -/
def Obligations.BlinkTogglesExactlyWhenDue : Prop :=
  ∀ s : State,
    (s.phase = .blink → s.cfg.tBlink ≤ s.elapsed s.lastTog → exec .blink s = .next
      { s with
        ind := !s.ind, statusOut := (if s.ind = true then !s.cfg.statusOnLevel else s.cfg.statusOnLevel),
        lastTog := s.now, phase := .render, idx := 0#5 }) ∧
    (s.phase = .blink → s.elapsed s.lastTog < s.cfg.tBlink →
      exec .blink s = .next { s with phase := .render, idx := 0#5 }) ∧
    (s.phase ≠ .blink → exec .blink s = .refused (.notEnabled .blink))

/-! ## The renderer -/

/-- R75: one word, chosen by the cell and the enable flag in this state; the next cell, or after cell 24 the end of the sweep;
nothing else changes; where the sequencer does not select it, `PIXEL` has no step (R52). -/
def Obligations.PixelEmitsCellAndAdvances : Prop :=
  ∀ s : State,
    (s.phase = .render → s.idx.toNat < 24 → exec .pixel s = .next
      { s with tx := s.tx ++ [frameWord s.cfg s.en s.buf s.idx.toNat], idx := s.idx + 1#5 }) ∧
    (s.phase = .render → s.idx.toNat = 24 → exec .pixel s = .next
      { s with tx := s.tx ++ [frameWord s.cfg s.en s.buf 24], phase := .sleep, idx := 0#5 }) ∧
    (s.phase ≠ .render → exec .pixel s = .refused (.notEnabled .pixel))

/-- The model's choice for the states no run reaches in which `idx` names a cell that does not exist (log 10). -/
def Obligations.PixelFaultsOnMissingCell : Prop :=
  ∀ s : State, s.phase = .render → 24 < s.idx.toNat → exec .pixel s = .fault (.noSuchCell s.idx)

/-! ## The button operations -/

/-- R64: discarded, nothing at all; accepted, the record, the digit modulo 10 and the new digit's pattern, whatever `en` is. -/
def Obligations.EdgeIncCountsUpWhenAccepted : Prop :=
  ∀ s : State,
    (s.elapsed s.lastAccInc ≤ s.cfg.tDebounce → exec .edgeInc s = .next s) ∧
    (s.cfg.tDebounce < s.elapsed s.lastAccInc → exec .edgeInc s = .next
      { s with
        lastAccInc := s.now, digit := BitVec.ofNat 4 ((s.digit.toNat + 1) % 10),
        buf := maskFor s.cfg (Fin.ofNat 10 (s.digit.toNat + 1)) })

/-- R65, as R64 with `(digit - 1 + 10) mod 10`, the sum first, so that nothing is borrowed. -/
def Obligations.EdgeDecCountsDownWhenAccepted : Prop :=
  ∀ s : State,
    (s.elapsed s.lastAccDec ≤ s.cfg.tDebounce → exec .edgeDec s = .next s) ∧
    (s.cfg.tDebounce < s.elapsed s.lastAccDec → exec .edgeDec s = .next
      { s with
        lastAccDec := s.now, digit := BitVec.ofNat 4 ((s.digit.toNat + 10 - 1) % 10),
        buf := maskFor s.cfg (Fin.ofNat 10 (s.digit.toNat + 10 - 1)) })

/-- R66: discarded, nothing at all; accepted, `en` flips and the buffer is cleared, or, for a legal digit, refreshed. -/
def Obligations.EdgeTogFlipsDisplayWhenAccepted : Prop :=
  ∀ s : State,
    (s.elapsed s.lastAccTog ≤ s.cfg.tDebounce → exec .edgeTog s = .next s) ∧
    (s.cfg.tDebounce < s.elapsed s.lastAccTog →
      (s.en = true → exec .edgeTog s = .next { s with lastAccTog := s.now, en := false, buf := 0#25 }) ∧
      (s.en = false → DigitLegal s → exec .edgeTog s = .next
        { s with lastAccTog := s.now, en := true, buf := maskFor s.cfg (Fin.ofNat 10 s.digit.toNat) }))

/-- R102, R103: a lookup with `digit > 9` sets `fault[1]`, leaves the mask open and lets the operation go on. Which mask it is, and
that a count of free values advances, is the model's (log 7). -/
def Obligations.EdgeTogRecordsInvalidDigit : Prop :=
  ∀ s : State, 9 < s.digit.toNat → s.en = false → s.cfg.tDebounce < s.elapsed s.lastAccTog →
    ∃ m : Mask25, exec .edgeTog s = .next
      { s with
        lastAccTog := s.now, en := true, buf := m, fault := s.fault ||| 0b10#2, freeCount := s.freeCount + 1 }

/-- R67, R101: nothing in production, the bit and nothing else in a test build. -/
def Obligations.EdgeUnkRecordsOnlyInTestBuild : Prop :=
  ∀ s : State,
    (s.cfg.strict = false → exec .edgeUnk s = .next s) ∧
    (s.cfg.strict = true → exec .edgeUnk s = .next { s with fault := s.fault ||| 0b01#2 })

/-- R68: an edge operation cannot fail and writes the display state and its own record only. A legal digit is assumed: with
another one the lookup also records `InvalidDigit` (R102). -/
def Obligations.EdgeWritesDisplayAndOwnRecordOnly : Prop :=
  ∀ (b : Button) (s : State), DigitLegal s → ∃ t : State, exec (edgeOp b) s = .next t ∧
    t = { s with
      digit := t.digit, en := t.en, buf := t.buf, lastAccInc := t.lastAccInc, lastAccDec := t.lastAccDec,
      lastAccTog := t.lastAccTog } ∧
    (∀ other : Button, other ≠ b → t.lastAcc other = s.lastAcc other) ∧
    (t.lastAcc b = s.lastAcc b ∨ t.lastAcc b = s.now) ∧
    (b ≠ .tog → t.en = s.en) ∧ (b = .tog → t.digit = s.digit)

/-- R60: a sample runs the edge operations of the buttons that fell, in the order 0, 1, 2, and then remembers the levels. -/
def Obligations.SampleRunsFallenEdgesInOrder : Prop :=
  ∀ (lv : Levels) (s : State), ∃ t : State,
    runOps (fallenEdges s.btnPrev lv) s = .next t ∧ exec (.sample lv) s = .next { t with btnPrev := lv }

/-- R61: a release, a held button and a steady high level cause no event. -/
def Obligations.SampleWithoutFallRemembersLevels : Prop :=
  ∀ (lv : Levels) (s : State), (∀ k : Nat, s.btnPrev.getLsbD k = true → lv.getLsbD k = true) →
    exec (.sample lv) s = .next { s with btnPrev := lv }

/-! ## The debounce window -/

/-- R69 (a), R125: after an accepted event of button `b`, whatever happens except a reset and as long as at most `T_DEBOUNCE` ms
pass, every further event of `b` is discarded and the record does not move. -/
def Obligations.WindowDiscardsUntilThreshold : Prop :=
  ∀ (b : Button) (s s' u : State) (between : List Instr),
    s.cfg.tDebounce < s.elapsed (s.lastAcc b) → exec (edgeOp b) s = .next s' →
    s.now < 2 ^ s.cfg.tw → s.cfg.tDebounce < 2 ^ s.cfg.tw →
    .reset ∉ between → ticksIn between ≤ s.cfg.tDebounce → runOps between s' = .next u →
    u.lastAcc b = s.now ∧ exec (edgeOp b) u = .next u

/-- R69 (a), (c): the first event of `b` later than `T_DEBOUNCE` ms after the accepted one, and less than `2^TW` ms after it, is
accepted, whatever else happens between: up to the end of the window anything, discarded events of `b` among it, and after it
anything but an event of `b`. -/
def Obligations.WindowEndsAfterThreshold : Prop :=
  ∀ (b : Button) (s s' v u : State) (window after : List Instr),
    s.cfg.tDebounce < s.elapsed (s.lastAcc b) → exec (edgeOp b) s = .next s' → s.now < 2 ^ s.cfg.tw →
    .reset ∉ window → .reset ∉ after → ticksIn window ≤ s.cfg.tDebounce →
    s.cfg.tDebounce < ticksIn window + ticksIn after → ticksIn window + ticksIn after < 2 ^ s.cfg.tw →
    runOps window s' = .next v → runOps after v = .next u → edgeFree b v.btnPrev after = true →
    ∃ t : State, exec (edgeOp b) u = .next t ∧
      t.lastAcc b = (s.now + (ticksIn window + ticksIn after)) % 2 ^ s.cfg.tw ∧
      (b = .inc → t.digit = BitVec.ofNat 4 ((u.digit.toNat + 1) % 10)) ∧
      (b = .dec → t.digit = BitVec.ofNat 4 ((u.digit.toNat + 9) % 10)) ∧
      (b = .tog → t.en = !u.en)

/-- R127: each button is deaf for the first `T_DEBOUNCE` ms, inclusive, after reset, whatever else happens, and its first
acceptable edge comes one millisecond later. -/
def Obligations.ButtonsDeafAfterReset : Prop :=
  ∀ (c : Config) (b : Button) (ops : List Instr) (u : State), c.tDebounce + 1 < 2 ^ c.tw → .reset ∉ ops →
    runOps ops (State.resetFor c) = .next u →
    (ticksIn ops ≤ c.tDebounce → exec (edgeOp b) u = .next u) ∧
    (ops = List.replicate (c.tDebounce + 1) .tick →
      ∃ t : State, exec (edgeOp b) u = .next t ∧ t.lastAcc b = c.tDebounce + 1)

/-- R128 (a): every `2^TW` ms after an accepted event the button is deaf again for `T_DEBOUNCE + 1` ms. -/
def Obligations.WindowRecursAfterWrap : Prop :=
  ∀ (b : Button) (s s' u : State) (rounds n : Nat),
    s.cfg.tDebounce < s.elapsed (s.lastAcc b) → exec (edgeOp b) s = .next s' →
    s.now < 2 ^ s.cfg.tw → n ≤ s.cfg.tDebounce → s.cfg.tDebounce < 2 ^ s.cfg.tw →
    runOps (List.replicate (rounds * 2 ^ s.cfg.tw + n) .tick) s' = .next u →
    exec (edgeOp b) u = .next u

/-! ## Order of events -/

/-- R106 (b), R131: increment and decrement in the same millisecond commute; where both are accepted from a legal digit they leave
the digit, refresh the buffer and start both windows. -/
def Obligations.IncAndDecCommute : Prop :=
  ∀ s : State, runOps [.edgeInc, .edgeDec] s = runOps [.edgeDec, .edgeInc] s ∧
    (DigitLegal s → s.cfg.tDebounce < s.elapsed s.lastAccInc → s.cfg.tDebounce < s.elapsed s.lastAccDec →
      runOps [.edgeInc, .edgeDec] s = .next
        { s with
          lastAccInc := s.now, lastAccDec := s.now, buf := maskFor s.cfg (Fin.ofNat 10 s.digit.toNat) })

/-- R106 (b): increment or decrement commutes with toggle-display in everything but the buffer, and in the buffer too whenever the
display is enabled afterwards. -/
def Obligations.CountAndToggleCommuteVisibly : Prop :=
  ∀ (b : Button) (s : State), DigitLegal s → b ≠ .tog → ∃ t u : State,
    runOps [edgeOp b, .edgeTog] s = .next t ∧ runOps [.edgeTog, edgeOp b] s = .next u ∧ SameButHiddenBuf t u

/-- E4 with C8: from a display state that is enabled, two accepted toggles restore `en`, `digit` and `buf`. -/
def Obligations.TogglePairRestoresEnabledDisplay : Prop :=
  ∀ (s t : State) (n : Nat), StateInv s → s.en = true → s.now < 2 ^ s.cfg.tw →
    s.cfg.tDebounce < s.elapsed s.lastAccTog → s.cfg.tDebounce < n → n < 2 ^ s.cfg.tw →
    runOps ([.edgeTog] ++ List.replicate n .tick ++ [.edgeTog]) s = .next t →
    t.en = s.en ∧ t.digit = s.digit ∧ t.buf = s.buf ∧ t.lastAccTog = (s.now + n) % 2 ^ s.cfg.tw

/-! ## The two contexts -/

/-- R107, R20: no button operation changes anything of the main context, the time or the pixel stream. -/
def Obligations.ButtonOperationsLeaveMainContext : Prop :=
  ∀ (i : Instr) (s : State), i.opClass = .button → ∃ t : State, exec i s = .next t ∧
    SameMainContext s t ∧ t.now = s.now ∧ t.tx = s.tx ∧ t.txMark = s.txMark ∧ t.cfg = s.cfg ∧ t.inputs = s.inputs

/-- R91, R39 (d): no main-loop operation changes anything of the interrupt context, the time, the fault bits or the model's own
fields. -/
def Obligations.MainLoopLeavesInterruptContext : Prop :=
  ∀ (i : Instr) (s t : State), i.opClass = .mainLoop → exec i s = .next t →
    SameInterruptContext s t ∧ t.now = s.now ∧ t.fault = s.fault ∧ SameModelFields s t

/-- R108: after a button operation the main loop goes on exactly as if nothing had happened: its operation is enabled or not as
before and does the same to its own registers. -/
def Obligations.MainLoopResumesAfterButton : Prop :=
  ∀ (i j : Instr) (s s' : State), i.opClass = .button → j.opClass = .mainLoop → exec i s = .next s' →
    (∀ t' : State, exec j s' = .next t' → ∃ t : State, exec j s = .next t ∧ SameMainContext t t') ∧
    (∀ r : Refusal, exec j s' = .refused r ↔ exec j s = .refused r)

/-- R52: the operations of the other classes are enabled in every state; of the main loop's, in any state, only the one the
sequencer selects has a step, and `WAKE` only with its guard; the others are refused. -/
def Obligations.EnabledExactlyAsSequenced : Prop :=
  ∀ s : State,
    (∀ i : Instr, i.opClass ≠ .mainLoop → ∃ t : State, exec i s = .next t) ∧
    (s.phase ≠ .blink → exec .blink s = .refused (.notEnabled .blink)) ∧
    (s.phase ≠ .render → exec .pixel s = .refused (.notEnabled .pixel)) ∧
    (s.phase ≠ .sleep → exec .sleep s = .refused (.notEnabled .sleep)) ∧
    (¬ (s.phase = .wait ∧ s.cfg.tSleep ≤ s.elapsed s.sleepStart) → exec .wake s = .refused (.notEnabled .wake)) ∧
    (s.phase = .blink → ∃ t : State, exec .blink s = .next t) ∧
    (s.phase = .render → s.idx.toNat ≤ 24 → ∃ t : State, exec .pixel s = .next t) ∧
    (s.phase = .sleep → ∃ t : State, exec .sleep s = .next t) ∧
    (s.phase = .wait → s.cfg.tSleep ≤ s.elapsed s.sleepStart → ∃ t : State, exec .wake s = .next t)

/-! ## Invariants of every step -/

/-- R24 (I1) to (I5): every step keeps them, whatever the environment offers. -/
def Obligations.EveryStepKeepsStateInv : Prop :=
  ∀ s t : State, StateInv s → step s = .next t → StateInv t

/-- Timestamps stay `TW`-bit values (R14, R15, R18, R21). -/
def Obligations.EveryStepKeepsTimesFit : Prop :=
  ∀ s t : State, TimesFit s → step s = .next t → TimesFit t

/-- R100: in production hardware no step from a good state with a legal digit records a violation. -/
def Obligations.EveryStepStaysGoodInProduction : Prop :=
  ∀ s t : State, DigitLegal s → Good s → s.cfg.strict = false → step s = .next t →
    DigitLegal t ∧ Good t ∧ t.cfg.strict = false

/-- R81: since the latest reset the stream is complete frames and the words of the cells before `idx`, and only the two colours
are ever sent. -/
def Obligations.EveryStepKeepsStreamFramed : Prop :=
  ∀ s t : State, IdxLegal s → StreamFramed s → TwoColours s → step s = .next t →
    IdxLegal t ∧ StreamFramed t ∧ TwoColours t

/-- R25: the parameters are configuration: no step changes them. -/
def Obligations.EveryStepKeepsConfiguration : Prop :=
  ∀ s t : State, step s = .next t → t.cfg = s.cfg

/-- What was sent was sent (R8, R80, R120): a step adds at most one word, at the end, and adds one only in `P_RENDER`. -/
def Obligations.EveryStepAppendsAtMostOneWord : Prop :=
  ∀ s t : State, step s = .next t →
    t.tx = s.tx ∨ (s.phase = .render ∧ t.tx = s.tx ++ [frameWord s.cfg s.en s.buf s.idx.toNat])

/-- R22, R103: a fault bit, once set, stays set until `RESET`; and only an unknown pin in a test build or a lookup with
`digit > 9` sets one. -/
def Obligations.FaultBitsAreSticky : Prop :=
  ∀ (i : Instr) (s t : State), i ≠ .reset → exec i s = .next t →
    s.fault &&& t.fault = s.fault ∧
    (t.fault ≠ s.fault → (i = .edgeUnk ∧ s.cfg.strict = true) ∨ 9 < s.digit.toNat)

/-- R24 (I6): what a `PIXEL` sends is the active colour exactly when the display is enabled and the digit's pattern has the
cell. -/
def Obligations.PixelShowsPatternOfDigit : Prop :=
  ∀ s : State, StateInv s → s.phase = .render → ∃ t : State, ∃ w : Color24,
    exec .pixel s = .next t ∧ t.tx = s.tx ++ [w] ∧
    (s.en = true ∧ (maskFor s.cfg (Fin.ofNat 10 s.digit.toNat)).getLsbD s.idx.toNat = true → w = s.cfg.colorActive) ∧
    (¬ (s.en = true ∧ (maskFor s.cfg (Fin.ofNat 10 s.digit.toNat)).getLsbD s.idx.toNat = true) → w = colorOff)

/-- R24 (I6), for whole executions: two states that differ only in a buffer that is hidden because the display is disabled take the
same steps, stay so related, and so send the same words and drive the same level. -/
def Obligations.HiddenBufferIsUnobservable : Prop :=
  ∀ s₁ s₂ : State, SameButHiddenBuf s₁ s₂ →
    s₁.outputs = s₂.outputs ∧
    (∀ t₁ : State, step s₁ = .next t₁ → ∃ t₂ : State, step s₂ = .next t₂ ∧ SameButHiddenBuf t₁ t₂) ∧
    (∀ r : Refusal, step s₁ = .refused r → step s₂ = .refused r) ∧ (∀ r : Fault, step s₁ = .fault r → step s₂ = .fault r)

/-! ## Sweeps and frames -/

/-- R76: a sweep in which no button operation falls, time passing as it may, sends the frame of the display state at its start,
word `k` the colour of cell `k`; and where the invariants hold at its start, that frame is the pattern of the digit. -/
def Obligations.UndisturbedSweepSendsFrame : Prop :=
  ∀ (s : State) (ops : List Instr), s.phase = .render → s.idx = 0#5 →
    (∀ i ∈ ops, i = .pixel ∨ i = .tick) → ops.count .pixel = 25 →
    ∃ n : Nat, runOps ops s = .next
      { s with tx := s.tx ++ frameOf s.cfg s.en s.buf, phase := .sleep, idx := 0#5, now := n } ∧
    (StateInv s → frameOf s.cfg s.en s.buf = frameOf s.cfg s.en (maskFor s.cfg (Fin.ofNat 10 s.digit.toNat)))

/-- R79, R39 (b): in any interleaving of a sweep, word `k` is the colour of cell `k` in the display state in which the `PIXEL` of
cell `k` runs. -/
def Obligations.TornSweepSendsCellByCell : Prop :=
  ∀ (s : State) (ops : List Instr), s.phase = .render → s.idx = 0#5 → .reset ∉ ops →
    mainLoopOps ops = List.replicate 25 .pixel →
    ∃ (t : State) (frame : List Color24), runOps ops s = .next t ∧ t.phase = .sleep ∧ t.idx = 0#5 ∧
      t.tx = s.tx ++ frame ∧ frame.length = 25 ∧
      ∀ (k : Nat) (before after : List Instr) (u : State),
        ops = before ++ .pixel :: after → before.count .pixel = k → runOps before s = .next u →
        frame[k]? = some (frameWord u.cfg u.en u.buf k)

/-- R77: while `en = 0` at every `PIXEL`, each sends off, whatever the digit and the buffer are: 25 of them for a sweep. -/
def Obligations.DisabledDisplaySendsOnlyOff : Prop :=
  ∀ (s t : State) (ops : List Instr), runOps ops s = .next t →
    (∀ (before after : List Instr) (u : State), ops = before ++ .pixel :: after → runOps before s = .next u → u.en = false) →
    t.tx = s.tx ++ List.replicate (ops.count .pixel) colorOff

/-! ## The main loop as a whole -/

/-- R90, R97: from `P_BLINK`, any interleaving of one iteration's operations with button operations and time runs to its sleep,
sends one frame's worth of words, and starts the sleep as many milliseconds later as the interleaving has. -/
def Obligations.IterationReachesSleepInAnyInterleaving : Prop :=
  ∀ (s : State) (ops : List Instr), s.phase = .blink → .reset ∉ ops →
    mainLoopOps ops = [.blink] ++ List.replicate 25 .pixel →
    ∃ t : State, runOps (ops ++ [.sleep]) s = .next t ∧ t.phase = .wait ∧ t.idx = 0#5 ∧
      t.tx.length = s.tx.length + 25 ∧ t.sleepStart = t.now ∧
      t.now % 2 ^ s.cfg.tw = (s.now + ticksIn ops) % 2 ^ s.cfg.tw

/-- R123: after reset the loop starts with `BLINK`, which does not toggle, and the first sweep, where no button event has been
accepted, sends the frame of digit 0 with the display enabled. -/
def Obligations.FirstIterationShowsDigitZero : Prop :=
  ∀ c : Config, 0 < c.tBlink →
    runOps TraceItem.iter0.expand (State.resetFor c) = .next
      { State.resetFor c with tx := frameOf c true (maskFor c 0), phase := .wait, idx := 0#5 }

/-- R96: in an execution from reset that keeps to `T_ACTIVE_MAX`, at most that many milliseconds lie between the start of an
iteration and the moment the following `SLEEP` records: for the first iteration, which begins in the reset state, and for one that
a `WAKE` or a `RESET` begins. -/
def Obligations.ActiveMaxBoundsEveryIteration : Prop :=
  ∀ (c : Config) (bound : Nat) (active : List Instr), c.tActiveMax = some bound →
    .sleep ∉ active → .wake ∉ active → .reset ∉ active →
    (∀ t : State, respectsActiveMax c (active ++ [.sleep]) = true → runOps (active ++ [.sleep]) (State.resetFor c) = .next t →
      ∃ a : Nat, a ≤ bound ∧ t.sleepStart % 2 ^ c.tw = a % 2 ^ c.tw) ∧
    (∀ (before : List Instr) (start : Instr) (u t : State), start = .wake ∨ start = .reset →
      respectsActiveMax c (before ++ [start] ++ active ++ [.sleep]) = true →
      runOps (before ++ [start]) (State.resetFor c) = .next u → runOps (active ++ [.sleep]) u = .next t →
      ∃ a : Nat, a ≤ bound ∧ t.sleepStart % 2 ^ c.tw = (u.now + a) % 2 ^ c.tw)

/-- R90: a main-loop operation that is not the next of the cycle never occurs; the sequencer moves only as in the table. -/
def Obligations.SequencerFollowsCycle : Prop :=
  ∀ (i : Instr) (s t : State), i ≠ .reset → exec i s = .next t →
    (i.opClass ≠ .mainLoop ∧ t.phase = s.phase ∧ t.idx = s.idx) ∨
    (i = .blink ∧ s.phase = .blink ∧ t.phase = .render ∧ t.idx = 0#5) ∨
    (i = .pixel ∧ s.phase = .render ∧ s.idx.toNat < 24 ∧ t.phase = .render ∧ t.idx.toNat = s.idx.toNat + 1) ∨
    (i = .pixel ∧ s.phase = .render ∧ s.idx.toNat = 24 ∧ t.phase = .sleep ∧ t.idx = 0#5) ∨
    (i = .sleep ∧ s.phase = .sleep ∧ t.phase = .wait ∧ t.idx = 0#5) ∨
    (i = .wake ∧ s.phase = .wait ∧ s.cfg.tSleep ≤ s.elapsed s.sleepStart ∧ t.phase = .blink ∧ t.idx = 0#5)

/-- R87 (a): after a toggle the indicator does not change again before `T_BLINK` ms have passed, whatever else happens. -/
def Obligations.TogglesAreSpaced : Prop :=
  ∀ (s s' u : State) (between : List Instr),
    s.phase = .blink → s.cfg.tBlink ≤ s.elapsed s.lastTog → exec .blink s = .next s' →
    s.now < 2 ^ s.cfg.tw → s.cfg.tBlink < 2 ^ s.cfg.tw →
    .reset ∉ between → ticksIn between < s.cfg.tBlink → runOps between s' = .next u →
    u.ind = s'.ind ∧ u.lastTog = s.now

/-- R91: left to itself (the model's choice of what then happens is log 5), the loop never stops, and never records a
violation. -/
def Obligations.UndisturbedRunNeverStops : Prop :=
  ∀ (s : State) (k : Nat), StateInv s → Good s → s.inputs = [] →
    ∃ t : State, Host.Core.run Sys2Proof.core k s = .next t ∧ StateInv t ∧ Good t

/-- R93: the hardware wakes at the first millisecond at which it can, so the sleep lasts exactly `T_SLEEP` ms (the model's choice
for a state in which the environment offers nothing, log 5). -/
def Obligations.UndisturbedSleepLastsExactly : Prop :=
  ∀ s : State, s.inputs = [] → s.phase = .sleep → s.now < 2 ^ s.cfg.tw → s.cfg.tSleep < 2 ^ s.cfg.tw →
    ∃ t u : State,
      Host.Core.run Sys2Proof.core (1 + s.cfg.tSleep) s = .next t ∧ t.phase = .wait ∧ t.sleepStart = s.now ∧
      t.now = (s.now + s.cfg.tSleep) % 2 ^ s.cfg.tw ∧ step t = .next u ∧ u.phase = .blink ∧ u.now = t.now

/-- R96: an execution in which the block is left to itself is weakly fair to the main loop (log 5, log 16). -/
def Obligations.UndisturbedRunIsWeaklyFair : Prop :=
  ∀ (ops : Nat → Instr) (states : Nat → State), IsExecution ops states →
    (∀ n, ops n = (states n).ownOperation) → WeaklyFair ops states

/-! ## Stimuli and steps -/

/-- 00_scope.md R6: a step runs the operation whose code the environment offers first, on the state with that code taken. The list
of offers is the model's own (log 4). -/
def Obligations.StepRunsOfferedCode : Prop :=
  ∀ (s : State) (op : Op8) (rest : List Stimulus) (i : Instr), s.inputs = .code op :: rest →
    i.wellFormed = true → decodeOp op = .operation i → step s = exec i { s with inputs := rest }

/-- R51: no step for a reserved code. -/
def Obligations.StepRefusesReservedCodes : Prop :=
  ∀ (s : State) (op : Op8) (rest : List Stimulus), s.inputs = .code op :: rest →
    ((0x04 ≤ op.toNat ∧ op.toNat ≤ 0x1F) ∨ (0x24 ≤ op.toNat ∧ op.toNat ≤ 0x3F) ∨ (0x41 ≤ op.toNat ∧ op.toNat ≤ 0x5F) ∨
      (0x68 ≤ op.toNat ∧ op.toNat ≤ 0x7F) ∨ (0x80 ≤ op.toNat ∧ op.toNat ≤ 0xFE) ↔
    ∃ r : Reserved, step s = .refused (.reservedCode r))

/-- R50: an interrupt event is dispatched on its pin: the three button pins to the three edge operations, every other pin to
`EDGE_UNK`. That the event is a stimulus of a list, and is taken off it, is the model's own (log 4, log 17). -/
def Obligations.StepDispatchesPinEvents : Prop :=
  ∀ (s : State) (p : PinId) (rest : List Stimulus), s.inputs = .pin p :: rest → s.cfg.buttonPinsDistinct = true →
    (p = s.cfg.pinInc → step s = exec .edgeInc { s with inputs := rest }) ∧
    (p = s.cfg.pinDec → step s = exec .edgeDec { s with inputs := rest }) ∧
    (p = s.cfg.pinTog → step s = exec .edgeTog { s with inputs := rest }) ∧
    (p ≠ s.cfg.pinInc → p ≠ s.cfg.pinDec → p ≠ s.cfg.pinTog → step s = exec .edgeUnk { s with inputs := rest })

/-- What a step does where the environment offers nothing: the main loop's enabled operation, else time (log 5). -/
def Obligations.StepWithoutStimulusRunsMainLoop : Prop :=
  ∀ s : State, s.inputs = [] →
    (s.phase = .blink → step s = exec .blink s) ∧ (s.phase = .render → step s = exec .pixel s) ∧
    (s.phase = .sleep → step s = exec .sleep s) ∧
    (s.phase = .wait → s.cfg.tSleep ≤ s.elapsed s.sleepStart → step s = exec .wake s) ∧
    (s.phase = .wait → s.elapsed s.sleepStart < s.cfg.tSleep → step s = exec .tick s)

/-! ## Codes and traces -/

/-- R46, R47, R56: a byte string reads as a trace exactly when it is the code of that trace. -/
def Obligations.TraceCodesReadBack : Prop :=
  ∀ (ops : List Instr) (bytes : List Op8), decodeTrace bytes = some ops ↔ encodeTrace ops = bytes

/-- R47, R48: a code is the operation of a row exactly when `(op & mask) = match`, no code is of two rows, and the operand of
`SAMPLE` is `op[2:0]`. -/
def Obligations.DecoderFollowsCodeMap : Prop :=
  (∀ op : Op8, ∀ row ∈ codeMap,
    row.covers op = true ↔ ∃ i : Instr, decodeOp op = .operation i ∧ i.mnemonic = row.mnemonic) ∧
  List.Pairwise (fun r₁ r₂ : CodeRow => ∀ op : Op8, ¬ (r₁.covers op = true ∧ r₂.covers op = true)) codeMap ∧
  (∀ (op : Op8) (lv : Levels), decodeOp op = .operation (.sample lv) → ∀ b : Fin 3, lv.getLsbD b = op.getLsbD b)

/-- Words written out from the patterns of R47 and read as the operations they stand for. -/
def Obligations.WrittenOutCodesDecode : Prop :=
  decodeOp 0b00000001#8 = .operation .edgeDec ∧ decodeOp 0b00100001#8 = .operation .pixel ∧
  decodeOp 0b01000000#8 = .operation .tick ∧ decodeOp 0b01100110#8 = .operation (.sample 0b110#3) ∧
  decodeOp 0b11111111#8 = .operation .reset ∧ decodeOp 0b00000100#8 = .reserved (.buttonEvent 0x04#8)

/-- R56: `PRESS b` stands for a clean press and release: it does what the one edge operation does. -/
def Obligations.PressIsOneEdge : Prop :=
  ∀ (b : Button) (s : State), s.btnPrev = 0b111#3 →
    runOps (TraceItem.press b).expand s = runOps (TraceItem.edge b).expand s ∧
    ∃ t : State, runOps (TraceItem.press b).expand s = .next t ∧ t.btnPrev = 0b111#3

/-- R56, R90: `ITER` is one whole iteration whose active part takes no time and whose sleep is exact. -/
def Obligations.IterIsOneExactIteration : Prop :=
  ∀ s : State, s.phase = .blink → s.now < 2 ^ s.cfg.tw → s.cfg.tSleep = 100 → 100 < 2 ^ s.cfg.tw →
    ∃ t : State, runOps TraceItem.iter.expand s = .next t ∧ t.phase = .blink ∧ t.idx = 0#5 ∧
      t.now = (s.now + 100) % 2 ^ s.cfg.tw ∧ t.sleepStart = s.now ∧ t.tx = s.tx ++ frameOf s.cfg s.en s.buf ∧
      SameInterruptContext s t
end

