-- ==== Sys2Proof/Laws/Codes.lean ====
section
/-!
SUPPORT. Decoding and encoding one operation code (spec/30_encoding.md R46, R47).
-/

namespace Sys2Proof

theorem decodeOp_encodeOp_sample : ∀ lv : Levels, decodeOp (encodeOp (.sample lv)) = .operation (.sample lv) := by decide

/-- The code that a decoded code stands for. -/
def Decoded.code : Decoded → Op8
  | .operation i => encodeOp i
  | .reserved r => r.code

/-- Each of the 256 codes reads as an operation with that code, or is refused by name with the code itself. -/
theorem decodeOp_code : ∀ op : Op8, (decodeOp op).code = op := by decide +kernel

theorem encodeOp_of_decodeOp {op : Op8} {i : Instr} (h : decodeOp op = .operation i) : encodeOp i = op := by
  have := decodeOp_code op
  rwa [h] at this

end Sys2Proof
end

