-- ==== Sys2Proof/Laws/State.lean ====
section
/-!
SUPPORT. What each named update of the state does to each field: one lemma per field per update.
-/

namespace Sys2Proof.Machine

variable (s : State)

@[simp] theorem setEn_cfg (v : Bool) : (s.setEn v).cfg = s.cfg := rfl
@[simp] theorem setEn_digit (v : Bool) : (s.setEn v).digit = s.digit := rfl
@[simp] theorem setEn_en (v : Bool) : (s.setEn v).en = v := rfl
@[simp] theorem setEn_buf (v : Bool) : (s.setEn v).buf = s.buf := rfl
@[simp] theorem setEn_lastAccInc (v : Bool) : (s.setEn v).lastAccInc = s.lastAccInc := rfl
@[simp] theorem setEn_lastAccDec (v : Bool) : (s.setEn v).lastAccDec = s.lastAccDec := rfl
@[simp] theorem setEn_lastAccTog (v : Bool) : (s.setEn v).lastAccTog = s.lastAccTog := rfl
@[simp] theorem setEn_lastTog (v : Bool) : (s.setEn v).lastTog = s.lastTog := rfl
@[simp] theorem setEn_ind (v : Bool) : (s.setEn v).ind = s.ind := rfl
@[simp] theorem setEn_statusOut (v : Bool) : (s.setEn v).statusOut = s.statusOut := rfl
@[simp] theorem setEn_now (v : Bool) : (s.setEn v).now = s.now := rfl
@[simp] theorem setEn_btnPrev (v : Bool) : (s.setEn v).btnPrev = s.btnPrev := rfl
@[simp] theorem setEn_phase (v : Bool) : (s.setEn v).phase = s.phase := rfl
@[simp] theorem setEn_idx (v : Bool) : (s.setEn v).idx = s.idx := rfl
@[simp] theorem setEn_sleepStart (v : Bool) : (s.setEn v).sleepStart = s.sleepStart := rfl
@[simp] theorem setEn_fault (v : Bool) : (s.setEn v).fault = s.fault := rfl
@[simp] theorem setEn_tx (v : Bool) : (s.setEn v).tx = s.tx := rfl
@[simp] theorem setEn_txMark (v : Bool) : (s.setEn v).txMark = s.txMark := rfl
@[simp] theorem setEn_inputs (v : Bool) : (s.setEn v).inputs = s.inputs := rfl
@[simp] theorem setEn_freeCount (v : Bool) : (s.setEn v).freeCount = s.freeCount := rfl

@[simp] theorem setInd_cfg (v : Bool) : (s.setInd v).cfg = s.cfg := rfl
@[simp] theorem setInd_digit (v : Bool) : (s.setInd v).digit = s.digit := rfl
@[simp] theorem setInd_en (v : Bool) : (s.setInd v).en = s.en := rfl
@[simp] theorem setInd_buf (v : Bool) : (s.setInd v).buf = s.buf := rfl
@[simp] theorem setInd_lastAccInc (v : Bool) : (s.setInd v).lastAccInc = s.lastAccInc := rfl
@[simp] theorem setInd_lastAccDec (v : Bool) : (s.setInd v).lastAccDec = s.lastAccDec := rfl
@[simp] theorem setInd_lastAccTog (v : Bool) : (s.setInd v).lastAccTog = s.lastAccTog := rfl
@[simp] theorem setInd_lastTog (v : Bool) : (s.setInd v).lastTog = s.lastTog := rfl
@[simp] theorem setInd_ind (v : Bool) : (s.setInd v).ind = v := rfl
@[simp] theorem setInd_statusOut (v : Bool) : (s.setInd v).statusOut = s.statusOut := rfl
@[simp] theorem setInd_now (v : Bool) : (s.setInd v).now = s.now := rfl
@[simp] theorem setInd_btnPrev (v : Bool) : (s.setInd v).btnPrev = s.btnPrev := rfl
@[simp] theorem setInd_phase (v : Bool) : (s.setInd v).phase = s.phase := rfl
@[simp] theorem setInd_idx (v : Bool) : (s.setInd v).idx = s.idx := rfl
@[simp] theorem setInd_sleepStart (v : Bool) : (s.setInd v).sleepStart = s.sleepStart := rfl
@[simp] theorem setInd_fault (v : Bool) : (s.setInd v).fault = s.fault := rfl
@[simp] theorem setInd_tx (v : Bool) : (s.setInd v).tx = s.tx := rfl
@[simp] theorem setInd_txMark (v : Bool) : (s.setInd v).txMark = s.txMark := rfl
@[simp] theorem setInd_inputs (v : Bool) : (s.setInd v).inputs = s.inputs := rfl
@[simp] theorem setInd_freeCount (v : Bool) : (s.setInd v).freeCount = s.freeCount := rfl

@[simp] theorem drive_cfg (lv : Bool) : (s.drive lv).cfg = s.cfg := rfl
@[simp] theorem drive_digit (lv : Bool) : (s.drive lv).digit = s.digit := rfl
@[simp] theorem drive_en (lv : Bool) : (s.drive lv).en = s.en := rfl
@[simp] theorem drive_buf (lv : Bool) : (s.drive lv).buf = s.buf := rfl
@[simp] theorem drive_lastAccInc (lv : Bool) : (s.drive lv).lastAccInc = s.lastAccInc := rfl
@[simp] theorem drive_lastAccDec (lv : Bool) : (s.drive lv).lastAccDec = s.lastAccDec := rfl
@[simp] theorem drive_lastAccTog (lv : Bool) : (s.drive lv).lastAccTog = s.lastAccTog := rfl
@[simp] theorem drive_lastTog (lv : Bool) : (s.drive lv).lastTog = s.lastTog := rfl
@[simp] theorem drive_ind (lv : Bool) : (s.drive lv).ind = s.ind := rfl
@[simp] theorem drive_statusOut (lv : Bool) : (s.drive lv).statusOut = lv := rfl
@[simp] theorem drive_now (lv : Bool) : (s.drive lv).now = s.now := rfl
@[simp] theorem drive_btnPrev (lv : Bool) : (s.drive lv).btnPrev = s.btnPrev := rfl
@[simp] theorem drive_phase (lv : Bool) : (s.drive lv).phase = s.phase := rfl
@[simp] theorem drive_idx (lv : Bool) : (s.drive lv).idx = s.idx := rfl
@[simp] theorem drive_sleepStart (lv : Bool) : (s.drive lv).sleepStart = s.sleepStart := rfl
@[simp] theorem drive_fault (lv : Bool) : (s.drive lv).fault = s.fault := rfl
@[simp] theorem drive_tx (lv : Bool) : (s.drive lv).tx = s.tx := rfl
@[simp] theorem drive_txMark (lv : Bool) : (s.drive lv).txMark = s.txMark := rfl
@[simp] theorem drive_inputs (lv : Bool) : (s.drive lv).inputs = s.inputs := rfl
@[simp] theorem drive_freeCount (lv : Bool) : (s.drive lv).freeCount = s.freeCount := rfl

@[simp] theorem setFault_cfg (v : BitVec 2) : (s.setFault v).cfg = s.cfg := rfl
@[simp] theorem setFault_digit (v : BitVec 2) : (s.setFault v).digit = s.digit := rfl
@[simp] theorem setFault_en (v : BitVec 2) : (s.setFault v).en = s.en := rfl
@[simp] theorem setFault_buf (v : BitVec 2) : (s.setFault v).buf = s.buf := rfl
@[simp] theorem setFault_lastAccInc (v : BitVec 2) : (s.setFault v).lastAccInc = s.lastAccInc := rfl
@[simp] theorem setFault_lastAccDec (v : BitVec 2) : (s.setFault v).lastAccDec = s.lastAccDec := rfl
@[simp] theorem setFault_lastAccTog (v : BitVec 2) : (s.setFault v).lastAccTog = s.lastAccTog := rfl
@[simp] theorem setFault_lastTog (v : BitVec 2) : (s.setFault v).lastTog = s.lastTog := rfl
@[simp] theorem setFault_ind (v : BitVec 2) : (s.setFault v).ind = s.ind := rfl
@[simp] theorem setFault_statusOut (v : BitVec 2) : (s.setFault v).statusOut = s.statusOut := rfl
@[simp] theorem setFault_now (v : BitVec 2) : (s.setFault v).now = s.now := rfl
@[simp] theorem setFault_btnPrev (v : BitVec 2) : (s.setFault v).btnPrev = s.btnPrev := rfl
@[simp] theorem setFault_phase (v : BitVec 2) : (s.setFault v).phase = s.phase := rfl
@[simp] theorem setFault_idx (v : BitVec 2) : (s.setFault v).idx = s.idx := rfl
@[simp] theorem setFault_sleepStart (v : BitVec 2) : (s.setFault v).sleepStart = s.sleepStart := rfl
@[simp] theorem setFault_fault (v : BitVec 2) : (s.setFault v).fault = v := rfl
@[simp] theorem setFault_tx (v : BitVec 2) : (s.setFault v).tx = s.tx := rfl
@[simp] theorem setFault_txMark (v : BitVec 2) : (s.setFault v).txMark = s.txMark := rfl
@[simp] theorem setFault_inputs (v : BitVec 2) : (s.setFault v).inputs = s.inputs := rfl
@[simp] theorem setFault_freeCount (v : BitVec 2) : (s.setFault v).freeCount = s.freeCount := rfl

@[simp] theorem setDigit_cfg (d : Digit) : (s.setDigit d).cfg = s.cfg := rfl
@[simp] theorem setDigit_digit (d : Digit) : (s.setDigit d).digit = d := rfl
@[simp] theorem setDigit_en (d : Digit) : (s.setDigit d).en = s.en := rfl
@[simp] theorem setDigit_buf (d : Digit) : (s.setDigit d).buf = s.buf := rfl
@[simp] theorem setDigit_lastAccInc (d : Digit) : (s.setDigit d).lastAccInc = s.lastAccInc := rfl
@[simp] theorem setDigit_lastAccDec (d : Digit) : (s.setDigit d).lastAccDec = s.lastAccDec := rfl
@[simp] theorem setDigit_lastAccTog (d : Digit) : (s.setDigit d).lastAccTog = s.lastAccTog := rfl
@[simp] theorem setDigit_lastTog (d : Digit) : (s.setDigit d).lastTog = s.lastTog := rfl
@[simp] theorem setDigit_ind (d : Digit) : (s.setDigit d).ind = s.ind := rfl
@[simp] theorem setDigit_statusOut (d : Digit) : (s.setDigit d).statusOut = s.statusOut := rfl
@[simp] theorem setDigit_now (d : Digit) : (s.setDigit d).now = s.now := rfl
@[simp] theorem setDigit_btnPrev (d : Digit) : (s.setDigit d).btnPrev = s.btnPrev := rfl
@[simp] theorem setDigit_phase (d : Digit) : (s.setDigit d).phase = s.phase := rfl
@[simp] theorem setDigit_idx (d : Digit) : (s.setDigit d).idx = s.idx := rfl
@[simp] theorem setDigit_sleepStart (d : Digit) : (s.setDigit d).sleepStart = s.sleepStart := rfl
@[simp] theorem setDigit_fault (d : Digit) : (s.setDigit d).fault = s.fault := rfl
@[simp] theorem setDigit_tx (d : Digit) : (s.setDigit d).tx = s.tx := rfl
@[simp] theorem setDigit_txMark (d : Digit) : (s.setDigit d).txMark = s.txMark := rfl
@[simp] theorem setDigit_inputs (d : Digit) : (s.setDigit d).inputs = s.inputs := rfl
@[simp] theorem setDigit_freeCount (d : Digit) : (s.setDigit d).freeCount = s.freeCount := rfl

@[simp] theorem bufWrite_cfg (m : Mask25) : (s.bufWrite m).cfg = s.cfg := rfl
@[simp] theorem bufWrite_digit (m : Mask25) : (s.bufWrite m).digit = s.digit := rfl
@[simp] theorem bufWrite_en (m : Mask25) : (s.bufWrite m).en = s.en := rfl
@[simp] theorem bufWrite_buf (m : Mask25) : (s.bufWrite m).buf = m := rfl
@[simp] theorem bufWrite_lastAccInc (m : Mask25) : (s.bufWrite m).lastAccInc = s.lastAccInc := rfl
@[simp] theorem bufWrite_lastAccDec (m : Mask25) : (s.bufWrite m).lastAccDec = s.lastAccDec := rfl
@[simp] theorem bufWrite_lastAccTog (m : Mask25) : (s.bufWrite m).lastAccTog = s.lastAccTog := rfl
@[simp] theorem bufWrite_lastTog (m : Mask25) : (s.bufWrite m).lastTog = s.lastTog := rfl
@[simp] theorem bufWrite_ind (m : Mask25) : (s.bufWrite m).ind = s.ind := rfl
@[simp] theorem bufWrite_statusOut (m : Mask25) : (s.bufWrite m).statusOut = s.statusOut := rfl
@[simp] theorem bufWrite_now (m : Mask25) : (s.bufWrite m).now = s.now := rfl
@[simp] theorem bufWrite_btnPrev (m : Mask25) : (s.bufWrite m).btnPrev = s.btnPrev := rfl
@[simp] theorem bufWrite_phase (m : Mask25) : (s.bufWrite m).phase = s.phase := rfl
@[simp] theorem bufWrite_idx (m : Mask25) : (s.bufWrite m).idx = s.idx := rfl
@[simp] theorem bufWrite_sleepStart (m : Mask25) : (s.bufWrite m).sleepStart = s.sleepStart := rfl
@[simp] theorem bufWrite_fault (m : Mask25) : (s.bufWrite m).fault = s.fault := rfl
@[simp] theorem bufWrite_tx (m : Mask25) : (s.bufWrite m).tx = s.tx := rfl
@[simp] theorem bufWrite_txMark (m : Mask25) : (s.bufWrite m).txMark = s.txMark := rfl
@[simp] theorem bufWrite_inputs (m : Mask25) : (s.bufWrite m).inputs = s.inputs := rfl
@[simp] theorem bufWrite_freeCount (m : Mask25) : (s.bufWrite m).freeCount = s.freeCount := rfl

@[simp] theorem setLastAcc_cfg (b : Button) (t : Nat) : (s.setLastAcc b t).cfg = s.cfg := rfl
@[simp] theorem setLastAcc_digit (b : Button) (t : Nat) : (s.setLastAcc b t).digit = s.digit := rfl
@[simp] theorem setLastAcc_en (b : Button) (t : Nat) : (s.setLastAcc b t).en = s.en := rfl
@[simp] theorem setLastAcc_buf (b : Button) (t : Nat) : (s.setLastAcc b t).buf = s.buf := rfl
@[simp] theorem setLastAcc_lastAccInc (b : Button) (t : Nat) : (s.setLastAcc b t).lastAccInc = if b = .inc then t else s.lastAccInc := rfl
@[simp] theorem setLastAcc_lastAccDec (b : Button) (t : Nat) : (s.setLastAcc b t).lastAccDec = if b = .dec then t else s.lastAccDec := rfl
@[simp] theorem setLastAcc_lastAccTog (b : Button) (t : Nat) : (s.setLastAcc b t).lastAccTog = if b = .tog then t else s.lastAccTog := rfl
@[simp] theorem setLastAcc_lastTog (b : Button) (t : Nat) : (s.setLastAcc b t).lastTog = s.lastTog := rfl
@[simp] theorem setLastAcc_ind (b : Button) (t : Nat) : (s.setLastAcc b t).ind = s.ind := rfl
@[simp] theorem setLastAcc_statusOut (b : Button) (t : Nat) : (s.setLastAcc b t).statusOut = s.statusOut := rfl
@[simp] theorem setLastAcc_now (b : Button) (t : Nat) : (s.setLastAcc b t).now = s.now := rfl
@[simp] theorem setLastAcc_btnPrev (b : Button) (t : Nat) : (s.setLastAcc b t).btnPrev = s.btnPrev := rfl
@[simp] theorem setLastAcc_phase (b : Button) (t : Nat) : (s.setLastAcc b t).phase = s.phase := rfl
@[simp] theorem setLastAcc_idx (b : Button) (t : Nat) : (s.setLastAcc b t).idx = s.idx := rfl
@[simp] theorem setLastAcc_sleepStart (b : Button) (t : Nat) : (s.setLastAcc b t).sleepStart = s.sleepStart := rfl
@[simp] theorem setLastAcc_fault (b : Button) (t : Nat) : (s.setLastAcc b t).fault = s.fault := rfl
@[simp] theorem setLastAcc_tx (b : Button) (t : Nat) : (s.setLastAcc b t).tx = s.tx := rfl
@[simp] theorem setLastAcc_txMark (b : Button) (t : Nat) : (s.setLastAcc b t).txMark = s.txMark := rfl
@[simp] theorem setLastAcc_inputs (b : Button) (t : Nat) : (s.setLastAcc b t).inputs = s.inputs := rfl
@[simp] theorem setLastAcc_freeCount (b : Button) (t : Nat) : (s.setLastAcc b t).freeCount = s.freeCount := rfl

@[simp] theorem setLastTog_cfg (t : Nat) : (s.setLastTog t).cfg = s.cfg := rfl
@[simp] theorem setLastTog_digit (t : Nat) : (s.setLastTog t).digit = s.digit := rfl
@[simp] theorem setLastTog_en (t : Nat) : (s.setLastTog t).en = s.en := rfl
@[simp] theorem setLastTog_buf (t : Nat) : (s.setLastTog t).buf = s.buf := rfl
@[simp] theorem setLastTog_lastAccInc (t : Nat) : (s.setLastTog t).lastAccInc = s.lastAccInc := rfl
@[simp] theorem setLastTog_lastAccDec (t : Nat) : (s.setLastTog t).lastAccDec = s.lastAccDec := rfl
@[simp] theorem setLastTog_lastAccTog (t : Nat) : (s.setLastTog t).lastAccTog = s.lastAccTog := rfl
@[simp] theorem setLastTog_lastTog (t : Nat) : (s.setLastTog t).lastTog = t := rfl
@[simp] theorem setLastTog_ind (t : Nat) : (s.setLastTog t).ind = s.ind := rfl
@[simp] theorem setLastTog_statusOut (t : Nat) : (s.setLastTog t).statusOut = s.statusOut := rfl
@[simp] theorem setLastTog_now (t : Nat) : (s.setLastTog t).now = s.now := rfl
@[simp] theorem setLastTog_btnPrev (t : Nat) : (s.setLastTog t).btnPrev = s.btnPrev := rfl
@[simp] theorem setLastTog_phase (t : Nat) : (s.setLastTog t).phase = s.phase := rfl
@[simp] theorem setLastTog_idx (t : Nat) : (s.setLastTog t).idx = s.idx := rfl
@[simp] theorem setLastTog_sleepStart (t : Nat) : (s.setLastTog t).sleepStart = s.sleepStart := rfl
@[simp] theorem setLastTog_fault (t : Nat) : (s.setLastTog t).fault = s.fault := rfl
@[simp] theorem setLastTog_tx (t : Nat) : (s.setLastTog t).tx = s.tx := rfl
@[simp] theorem setLastTog_txMark (t : Nat) : (s.setLastTog t).txMark = s.txMark := rfl
@[simp] theorem setLastTog_inputs (t : Nat) : (s.setLastTog t).inputs = s.inputs := rfl
@[simp] theorem setLastTog_freeCount (t : Nat) : (s.setLastTog t).freeCount = s.freeCount := rfl

@[simp] theorem setNow_cfg (t : Nat) : (s.setNow t).cfg = s.cfg := rfl
@[simp] theorem setNow_digit (t : Nat) : (s.setNow t).digit = s.digit := rfl
@[simp] theorem setNow_en (t : Nat) : (s.setNow t).en = s.en := rfl
@[simp] theorem setNow_buf (t : Nat) : (s.setNow t).buf = s.buf := rfl
@[simp] theorem setNow_lastAccInc (t : Nat) : (s.setNow t).lastAccInc = s.lastAccInc := rfl
@[simp] theorem setNow_lastAccDec (t : Nat) : (s.setNow t).lastAccDec = s.lastAccDec := rfl
@[simp] theorem setNow_lastAccTog (t : Nat) : (s.setNow t).lastAccTog = s.lastAccTog := rfl
@[simp] theorem setNow_lastTog (t : Nat) : (s.setNow t).lastTog = s.lastTog := rfl
@[simp] theorem setNow_ind (t : Nat) : (s.setNow t).ind = s.ind := rfl
@[simp] theorem setNow_statusOut (t : Nat) : (s.setNow t).statusOut = s.statusOut := rfl
@[simp] theorem setNow_now (t : Nat) : (s.setNow t).now = t := rfl
@[simp] theorem setNow_btnPrev (t : Nat) : (s.setNow t).btnPrev = s.btnPrev := rfl
@[simp] theorem setNow_phase (t : Nat) : (s.setNow t).phase = s.phase := rfl
@[simp] theorem setNow_idx (t : Nat) : (s.setNow t).idx = s.idx := rfl
@[simp] theorem setNow_sleepStart (t : Nat) : (s.setNow t).sleepStart = s.sleepStart := rfl
@[simp] theorem setNow_fault (t : Nat) : (s.setNow t).fault = s.fault := rfl
@[simp] theorem setNow_tx (t : Nat) : (s.setNow t).tx = s.tx := rfl
@[simp] theorem setNow_txMark (t : Nat) : (s.setNow t).txMark = s.txMark := rfl
@[simp] theorem setNow_inputs (t : Nat) : (s.setNow t).inputs = s.inputs := rfl
@[simp] theorem setNow_freeCount (t : Nat) : (s.setNow t).freeCount = s.freeCount := rfl

@[simp] theorem setBtnPrev_cfg (lv : Levels) : (s.setBtnPrev lv).cfg = s.cfg := rfl
@[simp] theorem setBtnPrev_digit (lv : Levels) : (s.setBtnPrev lv).digit = s.digit := rfl
@[simp] theorem setBtnPrev_en (lv : Levels) : (s.setBtnPrev lv).en = s.en := rfl
@[simp] theorem setBtnPrev_buf (lv : Levels) : (s.setBtnPrev lv).buf = s.buf := rfl
@[simp] theorem setBtnPrev_lastAccInc (lv : Levels) : (s.setBtnPrev lv).lastAccInc = s.lastAccInc := rfl
@[simp] theorem setBtnPrev_lastAccDec (lv : Levels) : (s.setBtnPrev lv).lastAccDec = s.lastAccDec := rfl
@[simp] theorem setBtnPrev_lastAccTog (lv : Levels) : (s.setBtnPrev lv).lastAccTog = s.lastAccTog := rfl
@[simp] theorem setBtnPrev_lastTog (lv : Levels) : (s.setBtnPrev lv).lastTog = s.lastTog := rfl
@[simp] theorem setBtnPrev_ind (lv : Levels) : (s.setBtnPrev lv).ind = s.ind := rfl
@[simp] theorem setBtnPrev_statusOut (lv : Levels) : (s.setBtnPrev lv).statusOut = s.statusOut := rfl
@[simp] theorem setBtnPrev_now (lv : Levels) : (s.setBtnPrev lv).now = s.now := rfl
@[simp] theorem setBtnPrev_btnPrev (lv : Levels) : (s.setBtnPrev lv).btnPrev = lv := rfl
@[simp] theorem setBtnPrev_phase (lv : Levels) : (s.setBtnPrev lv).phase = s.phase := rfl
@[simp] theorem setBtnPrev_idx (lv : Levels) : (s.setBtnPrev lv).idx = s.idx := rfl
@[simp] theorem setBtnPrev_sleepStart (lv : Levels) : (s.setBtnPrev lv).sleepStart = s.sleepStart := rfl
@[simp] theorem setBtnPrev_fault (lv : Levels) : (s.setBtnPrev lv).fault = s.fault := rfl
@[simp] theorem setBtnPrev_tx (lv : Levels) : (s.setBtnPrev lv).tx = s.tx := rfl
@[simp] theorem setBtnPrev_txMark (lv : Levels) : (s.setBtnPrev lv).txMark = s.txMark := rfl
@[simp] theorem setBtnPrev_inputs (lv : Levels) : (s.setBtnPrev lv).inputs = s.inputs := rfl
@[simp] theorem setBtnPrev_freeCount (lv : Levels) : (s.setBtnPrev lv).freeCount = s.freeCount := rfl

@[simp] theorem setPc_cfg (p : Phase) (i : BitVec 5) : (s.setPc p i).cfg = s.cfg := rfl
@[simp] theorem setPc_digit (p : Phase) (i : BitVec 5) : (s.setPc p i).digit = s.digit := rfl
@[simp] theorem setPc_en (p : Phase) (i : BitVec 5) : (s.setPc p i).en = s.en := rfl
@[simp] theorem setPc_buf (p : Phase) (i : BitVec 5) : (s.setPc p i).buf = s.buf := rfl
@[simp] theorem setPc_lastAccInc (p : Phase) (i : BitVec 5) : (s.setPc p i).lastAccInc = s.lastAccInc := rfl
@[simp] theorem setPc_lastAccDec (p : Phase) (i : BitVec 5) : (s.setPc p i).lastAccDec = s.lastAccDec := rfl
@[simp] theorem setPc_lastAccTog (p : Phase) (i : BitVec 5) : (s.setPc p i).lastAccTog = s.lastAccTog := rfl
@[simp] theorem setPc_lastTog (p : Phase) (i : BitVec 5) : (s.setPc p i).lastTog = s.lastTog := rfl
@[simp] theorem setPc_ind (p : Phase) (i : BitVec 5) : (s.setPc p i).ind = s.ind := rfl
@[simp] theorem setPc_statusOut (p : Phase) (i : BitVec 5) : (s.setPc p i).statusOut = s.statusOut := rfl
@[simp] theorem setPc_now (p : Phase) (i : BitVec 5) : (s.setPc p i).now = s.now := rfl
@[simp] theorem setPc_btnPrev (p : Phase) (i : BitVec 5) : (s.setPc p i).btnPrev = s.btnPrev := rfl
@[simp] theorem setPc_phase (p : Phase) (i : BitVec 5) : (s.setPc p i).phase = p := rfl
@[simp] theorem setPc_idx (p : Phase) (i : BitVec 5) : (s.setPc p i).idx = i := rfl
@[simp] theorem setPc_sleepStart (p : Phase) (i : BitVec 5) : (s.setPc p i).sleepStart = s.sleepStart := rfl
@[simp] theorem setPc_fault (p : Phase) (i : BitVec 5) : (s.setPc p i).fault = s.fault := rfl
@[simp] theorem setPc_tx (p : Phase) (i : BitVec 5) : (s.setPc p i).tx = s.tx := rfl
@[simp] theorem setPc_txMark (p : Phase) (i : BitVec 5) : (s.setPc p i).txMark = s.txMark := rfl
@[simp] theorem setPc_inputs (p : Phase) (i : BitVec 5) : (s.setPc p i).inputs = s.inputs := rfl
@[simp] theorem setPc_freeCount (p : Phase) (i : BitVec 5) : (s.setPc p i).freeCount = s.freeCount := rfl

@[simp] theorem setSleepStart_cfg (t : Nat) : (s.setSleepStart t).cfg = s.cfg := rfl
@[simp] theorem setSleepStart_digit (t : Nat) : (s.setSleepStart t).digit = s.digit := rfl
@[simp] theorem setSleepStart_en (t : Nat) : (s.setSleepStart t).en = s.en := rfl
@[simp] theorem setSleepStart_buf (t : Nat) : (s.setSleepStart t).buf = s.buf := rfl
@[simp] theorem setSleepStart_lastAccInc (t : Nat) : (s.setSleepStart t).lastAccInc = s.lastAccInc := rfl
@[simp] theorem setSleepStart_lastAccDec (t : Nat) : (s.setSleepStart t).lastAccDec = s.lastAccDec := rfl
@[simp] theorem setSleepStart_lastAccTog (t : Nat) : (s.setSleepStart t).lastAccTog = s.lastAccTog := rfl
@[simp] theorem setSleepStart_lastTog (t : Nat) : (s.setSleepStart t).lastTog = s.lastTog := rfl
@[simp] theorem setSleepStart_ind (t : Nat) : (s.setSleepStart t).ind = s.ind := rfl
@[simp] theorem setSleepStart_statusOut (t : Nat) : (s.setSleepStart t).statusOut = s.statusOut := rfl
@[simp] theorem setSleepStart_now (t : Nat) : (s.setSleepStart t).now = s.now := rfl
@[simp] theorem setSleepStart_btnPrev (t : Nat) : (s.setSleepStart t).btnPrev = s.btnPrev := rfl
@[simp] theorem setSleepStart_phase (t : Nat) : (s.setSleepStart t).phase = s.phase := rfl
@[simp] theorem setSleepStart_idx (t : Nat) : (s.setSleepStart t).idx = s.idx := rfl
@[simp] theorem setSleepStart_sleepStart (t : Nat) : (s.setSleepStart t).sleepStart = t := rfl
@[simp] theorem setSleepStart_fault (t : Nat) : (s.setSleepStart t).fault = s.fault := rfl
@[simp] theorem setSleepStart_tx (t : Nat) : (s.setSleepStart t).tx = s.tx := rfl
@[simp] theorem setSleepStart_txMark (t : Nat) : (s.setSleepStart t).txMark = s.txMark := rfl
@[simp] theorem setSleepStart_inputs (t : Nat) : (s.setSleepStart t).inputs = s.inputs := rfl
@[simp] theorem setSleepStart_freeCount (t : Nat) : (s.setSleepStart t).freeCount = s.freeCount := rfl

@[simp] theorem emit_cfg (w : Color24) : (s.emit w).cfg = s.cfg := rfl
@[simp] theorem emit_digit (w : Color24) : (s.emit w).digit = s.digit := rfl
@[simp] theorem emit_en (w : Color24) : (s.emit w).en = s.en := rfl
@[simp] theorem emit_buf (w : Color24) : (s.emit w).buf = s.buf := rfl
@[simp] theorem emit_lastAccInc (w : Color24) : (s.emit w).lastAccInc = s.lastAccInc := rfl
@[simp] theorem emit_lastAccDec (w : Color24) : (s.emit w).lastAccDec = s.lastAccDec := rfl
@[simp] theorem emit_lastAccTog (w : Color24) : (s.emit w).lastAccTog = s.lastAccTog := rfl
@[simp] theorem emit_lastTog (w : Color24) : (s.emit w).lastTog = s.lastTog := rfl
@[simp] theorem emit_ind (w : Color24) : (s.emit w).ind = s.ind := rfl
@[simp] theorem emit_statusOut (w : Color24) : (s.emit w).statusOut = s.statusOut := rfl
@[simp] theorem emit_now (w : Color24) : (s.emit w).now = s.now := rfl
@[simp] theorem emit_btnPrev (w : Color24) : (s.emit w).btnPrev = s.btnPrev := rfl
@[simp] theorem emit_phase (w : Color24) : (s.emit w).phase = s.phase := rfl
@[simp] theorem emit_idx (w : Color24) : (s.emit w).idx = s.idx := rfl
@[simp] theorem emit_sleepStart (w : Color24) : (s.emit w).sleepStart = s.sleepStart := rfl
@[simp] theorem emit_fault (w : Color24) : (s.emit w).fault = s.fault := rfl
@[simp] theorem emit_tx (w : Color24) : (s.emit w).tx = s.tx ++ [w] := rfl
@[simp] theorem emit_txMark (w : Color24) : (s.emit w).txMark = s.txMark := rfl
@[simp] theorem emit_inputs (w : Color24) : (s.emit w).inputs = s.inputs := rfl
@[simp] theorem emit_freeCount (w : Color24) : (s.emit w).freeCount = s.freeCount := rfl

@[simp] theorem markTx_cfg : (s.markTx).cfg = s.cfg := rfl
@[simp] theorem markTx_digit : (s.markTx).digit = s.digit := rfl
@[simp] theorem markTx_en : (s.markTx).en = s.en := rfl
@[simp] theorem markTx_buf : (s.markTx).buf = s.buf := rfl
@[simp] theorem markTx_lastAccInc : (s.markTx).lastAccInc = s.lastAccInc := rfl
@[simp] theorem markTx_lastAccDec : (s.markTx).lastAccDec = s.lastAccDec := rfl
@[simp] theorem markTx_lastAccTog : (s.markTx).lastAccTog = s.lastAccTog := rfl
@[simp] theorem markTx_lastTog : (s.markTx).lastTog = s.lastTog := rfl
@[simp] theorem markTx_ind : (s.markTx).ind = s.ind := rfl
@[simp] theorem markTx_statusOut : (s.markTx).statusOut = s.statusOut := rfl
@[simp] theorem markTx_now : (s.markTx).now = s.now := rfl
@[simp] theorem markTx_btnPrev : (s.markTx).btnPrev = s.btnPrev := rfl
@[simp] theorem markTx_phase : (s.markTx).phase = s.phase := rfl
@[simp] theorem markTx_idx : (s.markTx).idx = s.idx := rfl
@[simp] theorem markTx_sleepStart : (s.markTx).sleepStart = s.sleepStart := rfl
@[simp] theorem markTx_fault : (s.markTx).fault = s.fault := rfl
@[simp] theorem markTx_tx : (s.markTx).tx = s.tx := rfl
@[simp] theorem markTx_txMark : (s.markTx).txMark = s.tx.length := rfl
@[simp] theorem markTx_inputs : (s.markTx).inputs = s.inputs := rfl
@[simp] theorem markTx_freeCount : (s.markTx).freeCount = s.freeCount := rfl

@[simp] theorem setInputs_cfg (l : List Stimulus) : (s.setInputs l).cfg = s.cfg := rfl
@[simp] theorem setInputs_digit (l : List Stimulus) : (s.setInputs l).digit = s.digit := rfl
@[simp] theorem setInputs_en (l : List Stimulus) : (s.setInputs l).en = s.en := rfl
@[simp] theorem setInputs_buf (l : List Stimulus) : (s.setInputs l).buf = s.buf := rfl
@[simp] theorem setInputs_lastAccInc (l : List Stimulus) : (s.setInputs l).lastAccInc = s.lastAccInc := rfl
@[simp] theorem setInputs_lastAccDec (l : List Stimulus) : (s.setInputs l).lastAccDec = s.lastAccDec := rfl
@[simp] theorem setInputs_lastAccTog (l : List Stimulus) : (s.setInputs l).lastAccTog = s.lastAccTog := rfl
@[simp] theorem setInputs_lastTog (l : List Stimulus) : (s.setInputs l).lastTog = s.lastTog := rfl
@[simp] theorem setInputs_ind (l : List Stimulus) : (s.setInputs l).ind = s.ind := rfl
@[simp] theorem setInputs_statusOut (l : List Stimulus) : (s.setInputs l).statusOut = s.statusOut := rfl
@[simp] theorem setInputs_now (l : List Stimulus) : (s.setInputs l).now = s.now := rfl
@[simp] theorem setInputs_btnPrev (l : List Stimulus) : (s.setInputs l).btnPrev = s.btnPrev := rfl
@[simp] theorem setInputs_phase (l : List Stimulus) : (s.setInputs l).phase = s.phase := rfl
@[simp] theorem setInputs_idx (l : List Stimulus) : (s.setInputs l).idx = s.idx := rfl
@[simp] theorem setInputs_sleepStart (l : List Stimulus) : (s.setInputs l).sleepStart = s.sleepStart := rfl
@[simp] theorem setInputs_fault (l : List Stimulus) : (s.setInputs l).fault = s.fault := rfl
@[simp] theorem setInputs_tx (l : List Stimulus) : (s.setInputs l).tx = s.tx := rfl
@[simp] theorem setInputs_txMark (l : List Stimulus) : (s.setInputs l).txMark = s.txMark := rfl
@[simp] theorem setInputs_inputs (l : List Stimulus) : (s.setInputs l).inputs = l := rfl
@[simp] theorem setInputs_freeCount (l : List Stimulus) : (s.setInputs l).freeCount = s.freeCount := rfl

@[simp] theorem useFree_cfg : (s.useFree).cfg = s.cfg := rfl
@[simp] theorem useFree_digit : (s.useFree).digit = s.digit := rfl
@[simp] theorem useFree_en : (s.useFree).en = s.en := rfl
@[simp] theorem useFree_buf : (s.useFree).buf = s.buf := rfl
@[simp] theorem useFree_lastAccInc : (s.useFree).lastAccInc = s.lastAccInc := rfl
@[simp] theorem useFree_lastAccDec : (s.useFree).lastAccDec = s.lastAccDec := rfl
@[simp] theorem useFree_lastAccTog : (s.useFree).lastAccTog = s.lastAccTog := rfl
@[simp] theorem useFree_lastTog : (s.useFree).lastTog = s.lastTog := rfl
@[simp] theorem useFree_ind : (s.useFree).ind = s.ind := rfl
@[simp] theorem useFree_statusOut : (s.useFree).statusOut = s.statusOut := rfl
@[simp] theorem useFree_now : (s.useFree).now = s.now := rfl
@[simp] theorem useFree_btnPrev : (s.useFree).btnPrev = s.btnPrev := rfl
@[simp] theorem useFree_phase : (s.useFree).phase = s.phase := rfl
@[simp] theorem useFree_idx : (s.useFree).idx = s.idx := rfl
@[simp] theorem useFree_sleepStart : (s.useFree).sleepStart = s.sleepStart := rfl
@[simp] theorem useFree_fault : (s.useFree).fault = s.fault := rfl
@[simp] theorem useFree_tx : (s.useFree).tx = s.tx := rfl
@[simp] theorem useFree_txMark : (s.useFree).txMark = s.txMark := rfl
@[simp] theorem useFree_inputs : (s.useFree).inputs = s.inputs := rfl
@[simp] theorem useFree_freeCount : (s.useFree).freeCount = s.freeCount + 1 := rfl

@[simp] theorem raise_cfg (x : Violation) : (s.raise x).cfg = s.cfg := rfl
@[simp] theorem raise_digit (x : Violation) : (s.raise x).digit = s.digit := rfl
@[simp] theorem raise_en (x : Violation) : (s.raise x).en = s.en := rfl
@[simp] theorem raise_buf (x : Violation) : (s.raise x).buf = s.buf := rfl
@[simp] theorem raise_lastAccInc (x : Violation) : (s.raise x).lastAccInc = s.lastAccInc := rfl
@[simp] theorem raise_lastAccDec (x : Violation) : (s.raise x).lastAccDec = s.lastAccDec := rfl
@[simp] theorem raise_lastAccTog (x : Violation) : (s.raise x).lastAccTog = s.lastAccTog := rfl
@[simp] theorem raise_lastTog (x : Violation) : (s.raise x).lastTog = s.lastTog := rfl
@[simp] theorem raise_ind (x : Violation) : (s.raise x).ind = s.ind := rfl
@[simp] theorem raise_statusOut (x : Violation) : (s.raise x).statusOut = s.statusOut := rfl
@[simp] theorem raise_now (x : Violation) : (s.raise x).now = s.now := rfl
@[simp] theorem raise_btnPrev (x : Violation) : (s.raise x).btnPrev = s.btnPrev := rfl
@[simp] theorem raise_phase (x : Violation) : (s.raise x).phase = s.phase := rfl
@[simp] theorem raise_idx (x : Violation) : (s.raise x).idx = s.idx := rfl
@[simp] theorem raise_sleepStart (x : Violation) : (s.raise x).sleepStart = s.sleepStart := rfl
@[simp] theorem raise_fault (x : Violation) : (s.raise x).fault = s.fault ||| x.bit := rfl
@[simp] theorem raise_tx (x : Violation) : (s.raise x).tx = s.tx := rfl
@[simp] theorem raise_txMark (x : Violation) : (s.raise x).txMark = s.txMark := rfl
@[simp] theorem raise_inputs (x : Violation) : (s.raise x).inputs = s.inputs := rfl
@[simp] theorem raise_freeCount (x : Violation) : (s.raise x).freeCount = s.freeCount := rfl

@[simp] theorem bufWriteFree_cfg : (s.bufWriteFree).cfg = s.cfg := rfl
@[simp] theorem bufWriteFree_digit : (s.bufWriteFree).digit = s.digit := rfl
@[simp] theorem bufWriteFree_en : (s.bufWriteFree).en = s.en := rfl
@[simp] theorem bufWriteFree_buf : (s.bufWriteFree).buf = Config.freeMask s.freeCount := rfl
@[simp] theorem bufWriteFree_lastAccInc : (s.bufWriteFree).lastAccInc = s.lastAccInc := rfl
@[simp] theorem bufWriteFree_lastAccDec : (s.bufWriteFree).lastAccDec = s.lastAccDec := rfl
@[simp] theorem bufWriteFree_lastAccTog : (s.bufWriteFree).lastAccTog = s.lastAccTog := rfl
@[simp] theorem bufWriteFree_lastTog : (s.bufWriteFree).lastTog = s.lastTog := rfl
@[simp] theorem bufWriteFree_ind : (s.bufWriteFree).ind = s.ind := rfl
@[simp] theorem bufWriteFree_statusOut : (s.bufWriteFree).statusOut = s.statusOut := rfl
@[simp] theorem bufWriteFree_now : (s.bufWriteFree).now = s.now := rfl
@[simp] theorem bufWriteFree_btnPrev : (s.bufWriteFree).btnPrev = s.btnPrev := rfl
@[simp] theorem bufWriteFree_phase : (s.bufWriteFree).phase = s.phase := rfl
@[simp] theorem bufWriteFree_idx : (s.bufWriteFree).idx = s.idx := rfl
@[simp] theorem bufWriteFree_sleepStart : (s.bufWriteFree).sleepStart = s.sleepStart := rfl
@[simp] theorem bufWriteFree_fault : (s.bufWriteFree).fault = s.fault := rfl
@[simp] theorem bufWriteFree_tx : (s.bufWriteFree).tx = s.tx := rfl
@[simp] theorem bufWriteFree_txMark : (s.bufWriteFree).txMark = s.txMark := rfl
@[simp] theorem bufWriteFree_inputs : (s.bufWriteFree).inputs = s.inputs := rfl
@[simp] theorem bufWriteFree_freeCount : (s.bufWriteFree).freeCount = s.freeCount + 1 := rfl

@[simp] theorem clear_cfg : (s.clear).cfg = s.cfg := rfl
@[simp] theorem clear_digit : (s.clear).digit = s.digit := rfl
@[simp] theorem clear_en : (s.clear).en = s.en := rfl
@[simp] theorem clear_buf : (s.clear).buf = 0#25 := rfl
@[simp] theorem clear_lastAccInc : (s.clear).lastAccInc = s.lastAccInc := rfl
@[simp] theorem clear_lastAccDec : (s.clear).lastAccDec = s.lastAccDec := rfl
@[simp] theorem clear_lastAccTog : (s.clear).lastAccTog = s.lastAccTog := rfl
@[simp] theorem clear_lastTog : (s.clear).lastTog = s.lastTog := rfl
@[simp] theorem clear_ind : (s.clear).ind = s.ind := rfl
@[simp] theorem clear_statusOut : (s.clear).statusOut = s.statusOut := rfl
@[simp] theorem clear_now : (s.clear).now = s.now := rfl
@[simp] theorem clear_btnPrev : (s.clear).btnPrev = s.btnPrev := rfl
@[simp] theorem clear_phase : (s.clear).phase = s.phase := rfl
@[simp] theorem clear_idx : (s.clear).idx = s.idx := rfl
@[simp] theorem clear_sleepStart : (s.clear).sleepStart = s.sleepStart := rfl
@[simp] theorem clear_fault : (s.clear).fault = s.fault := rfl
@[simp] theorem clear_tx : (s.clear).tx = s.tx := rfl
@[simp] theorem clear_txMark : (s.clear).txMark = s.txMark := rfl
@[simp] theorem clear_inputs : (s.clear).inputs = s.inputs := rfl
@[simp] theorem clear_freeCount : (s.clear).freeCount = s.freeCount := rfl

end Sys2Proof.Machine
end

