-- ==== Sys2Proof/Laws/Ops.lean ====
section
/-!
SUPPORT. One lemma for each shared operation, saying once all it can do: elapsed time, the two arrays, the digit arithmetic, the
refresh, the debounce decision, the edge operations, the sequencer, and a whole step.
-/

namespace Sys2Proof.Machine

/-! ## Elapsed time (00_scope.md R7) -/

theorem elapsed_lt (s : State) (t : Nat) : s.elapsed t < 2 ^ s.cfg.tw := by
  have pos : (0 : Int) < ((2 ^ s.cfg.tw : Nat) : Int) := by positivity
  have := Int.emod_lt_of_pos ((s.now : Int) - (t : Int)) pos
  have := Int.emod_nonneg ((s.now : Int) - (t : Int)) pos.ne'
  unfold State.elapsed
  omega

theorem elapsed_cast (s : State) (t : Nat) :
    (s.elapsed t : Int) = ((s.now : Int) - (t : Int)) % ((2 ^ s.cfg.tw : Nat) : Int) :=
  Int.toNat_of_nonneg (Int.emod_nonneg _ (by positivity))

/-- Elapsed time reads `now` and the width, nothing else. -/
theorem elapsed_congr {s u : State} (hcfg : u.cfg = s.cfg) (hnow : u.now = s.now) (t : Nat) : u.elapsed t = s.elapsed t := by
  simp [State.elapsed, hcfg, hnow]

/-- Where `now` is congruent to `t + n` and `n` is below `2^TW`, exactly `n` ms have elapsed. -/
theorem elapsed_of_modEq {s : State} {t n : Nat} (hn : n < 2 ^ s.cfg.tw)
    (h : s.now % 2 ^ s.cfg.tw = (t + n) % 2 ^ s.cfg.tw) : s.elapsed t = n := by
  have key : ((s.now : Int) - (t : Int)) % ((2 ^ s.cfg.tw : Nat) : Int) = (n : Int) := by
    have e : (s.now : Int) % ((2 ^ s.cfg.tw : Nat) : Int) = ((t + n : Nat) : Int) % ((2 ^ s.cfg.tw : Nat) : Int) := by
      exact_mod_cast h
    rw [Int.sub_emod, e, ← Int.sub_emod]
    have : ((t + n : Nat) : Int) - (t : Int) = (n : Int) := by push_cast; ring
    rw [this]
    exact Int.emod_eq_of_lt (by positivity) (by exact_mod_cast hn)
  have := elapsed_cast s t
  omega

/-! ## The arrays and the digit -/

theorem romRead_legal {c : Config} {d : Digit} (h : d.toNat < 10) : romRead c d = some (maskFor c (Fin.ofNat 10 d.toNat)) := by
  have e : d.toNat % 10 = d.toNat := Nat.mod_eq_of_lt h
  simp [romRead, h, maskFor, Fin.ofNat, e]

theorem romRead_illegal {c : Config} {d : Digit} (h : 10 ≤ d.toNat) : romRead c d = none := by
  simp [romRead, Nat.not_lt.mpr h]

theorem bufRead_cell {m : Mask25} {i : BitVec 5} (h : i.toNat < 25) : bufRead m i = some (m.getLsbD i.toNat) := by
  simp [bufRead, nCells, h]

theorem bufRead_missing {m : Mask25} {i : BitVec 5} (h : 25 ≤ i.toNat) : bufRead m i = none := by
  simp [bufRead, nCells, Nat.not_lt.mpr h]

theorem digitUp_toNat (d : Digit) : (digitUp d).toNat = (d.toNat + 1) % 10 := by
  simp only [digitUp, BitVec.toNat_ofNat]; omega

theorem digitDown_toNat (d : Digit) : (digitDown d).toNat = (d.toNat + 9) % 10 := by
  simp only [digitDown, BitVec.toNat_ofNat]; omega

/-! ## Refresh -/

/-- With a legal digit `refresh()` is a write of the digit's pattern. -/
theorem refresh_legal {s : State} (h : s.digit.toNat < 10) :
    s.refresh = s.bufWrite (maskFor s.cfg (Fin.ofNat 10 s.digit.toNat)) := by
  simp [State.refresh, romRead_legal h]

/-- With a digit 10 to 15 it records `InvalidDigit` and writes a free mask. -/
theorem refresh_illegal {s : State} (h : 10 ≤ s.digit.toNat) : s.refresh = (s.raise .invalidDigit).bufWriteFree := by
  simp [State.refresh, romRead_illegal h]

/-- `refresh()` writes the buffer and, with an illegal digit only, a fault bit and the count of free values. -/
theorem refresh_frame (s : State) :
    s.refresh = { s with buf := s.refresh.buf, fault := s.refresh.fault, freeCount := s.refresh.freeCount } := by
  unfold State.refresh
  split <;> rfl

/-! ## The debounce decision -/

theorem debounce_discards {s : State} {b : Button} (h : s.elapsed (s.lastAcc b) ≤ s.cfg.tDebounce) : s.debounce b = none := by
  simp [State.debounce, h]

theorem debounce_accepts {s : State} {b : Button} (h : s.cfg.tDebounce < s.elapsed (s.lastAcc b)) :
    s.debounce b = some (s.setLastAcc b s.now) := by
  simp [State.debounce, Nat.not_le.mpr h]

/-- An edge is discarded and nothing at all happens, or it is accepted and the action runs on the state with the new record. -/
theorem onEdge_cases (s : State) (b : Button) (action : State → State) :
    (s.elapsed (s.lastAcc b) ≤ s.cfg.tDebounce ∧ s.onEdge b action = s) ∨
      (s.cfg.tDebounce < s.elapsed (s.lastAcc b) ∧ s.onEdge b action = action (s.setLastAcc b s.now)) := by
  rcases Nat.lt_or_ge s.cfg.tDebounce (s.elapsed (s.lastAcc b)) with h | h
  · exact .inr ⟨h, by simp [State.onEdge, debounce_accepts h]⟩
  · exact .inl ⟨h, by simp [State.onEdge, debounce_discards h]⟩

@[simp] theorem lastAcc_setLastAcc (s : State) (b : Button) (t : Nat) : (s.setLastAcc b t).lastAcc b = t := by
  cases b <;> simp [State.lastAcc]

theorem lastAcc_setLastAcc_other (s : State) {b other : Button} (t : Nat) (h : other ≠ b) :
    (s.setLastAcc b t).lastAcc other = s.lastAcc other := by
  cases b <;> cases other <;> simp_all [State.lastAcc]

/-! ## The edge operations -/

theorem edgeOp_exec (b : Button) (s : State) : exec (edgeOp b) s = .next (performEdge b s) := by
  cases b <;> rfl

/-- The action of a button, on the state in which its event has been accepted. -/
def actionOf : Button → State → State
  | .inc => incAction
  | .dec => decAction
  | .tog => togAction

theorem performEdge_cases (b : Button) (s : State) :
    (s.elapsed (s.lastAcc b) ≤ s.cfg.tDebounce ∧ performEdge b s = s) ∨
      (s.cfg.tDebounce < s.elapsed (s.lastAcc b) ∧ performEdge b s = actionOf b (s.setLastAcc b s.now)) := by
  cases b <;> exact onEdge_cases s _ _

theorem performEdge_discards {b : Button} {s : State} (h : s.elapsed (s.lastAcc b) ≤ s.cfg.tDebounce) : performEdge b s = s := by
  rcases performEdge_cases b s with ⟨_, e⟩ | ⟨h', _⟩
  · exact e
  · omega

theorem performEdge_accepts {b : Button} {s : State} (h : s.cfg.tDebounce < s.elapsed (s.lastAcc b)) :
    performEdge b s = actionOf b (s.setLastAcc b s.now) := by
  rcases performEdge_cases b s with ⟨h', _⟩ | ⟨_, e⟩
  · omega
  · exact e

theorem incAction_eq (s : State) :
    incAction s = (s.setDigit (digitUp s.digit)).bufWrite (maskFor s.cfg (Fin.ofNat 10 (s.digit.toNat + 1))) := by
  have h : (s.setDigit (digitUp s.digit)).digit.toNat < 10 := by
    simp only [setDigit_digit, digitUp_toNat]; omega
  have e : Fin.ofNat 10 ((s.digit.toNat + 1) % 10) = Fin.ofNat 10 (s.digit.toNat + 1) := by
    simp [Fin.ofNat]
  rw [incAction, refresh_legal h]
  simp only [setDigit_digit, setDigit_cfg, digitUp_toNat, e]

theorem decAction_eq (s : State) :
    decAction s = (s.setDigit (digitDown s.digit)).bufWrite (maskFor s.cfg (Fin.ofNat 10 (s.digit.toNat + 9))) := by
  have h : (s.setDigit (digitDown s.digit)).digit.toNat < 10 := by
    simp only [setDigit_digit, digitDown_toNat]; omega
  have e : Fin.ofNat 10 ((s.digit.toNat + 9) % 10) = Fin.ofNat 10 (s.digit.toNat + 9) := by
    simp [Fin.ofNat]
  rw [decAction, refresh_legal h]
  simp only [setDigit_digit, setDigit_cfg, digitDown_toNat, e]

theorem togAction_disables {s : State} (h : s.en = true) : togAction s = (s.setEn false).clear := by
  simp [togAction, h]

theorem togAction_enables {s : State} (h : s.en = false) : togAction s = (s.setEn true).refresh := by
  simp [togAction, h]

/-- An action writes the display state and, through a lookup with an illegal digit, a fault bit and the count of free values. -/
theorem actionOf_frame (b : Button) (s : State) :
    actionOf b s = { s with
      digit := (actionOf b s).digit, en := (actionOf b s).en, buf := (actionOf b s).buf,
      fault := (actionOf b s).fault, freeCount := (actionOf b s).freeCount } := by
  cases b with
  | inc => rw [actionOf, incAction_eq]; rfl
  | dec => rw [actionOf, decAction_eq]; rfl
  | tog =>
    cases h : s.en with
    | true => rw [actionOf, togAction_disables h]; rfl
    | false => rw [actionOf, togAction_enables h, refresh_frame]; rfl

/-- No action touches a record. -/
theorem actionOf_lastAcc (b other : Button) (s : State) : (actionOf b s).lastAcc other = s.lastAcc other := by
  rw [actionOf_frame]; cases other <;> rfl

/-- A record moves only where its own button's event is accepted, and then to `now` (R62, R68). -/
theorem performEdge_lastAcc (b other : Button) (s : State) :
    (performEdge b s).lastAcc other = s.lastAcc other ∨
      (other = b ∧ s.cfg.tDebounce < s.elapsed (s.lastAcc b) ∧ (performEdge b s).lastAcc other = s.now) := by
  rcases performEdge_cases b s with ⟨_, e⟩ | ⟨h, e⟩ <;> rw [e]
  · exact .inl rfl
  · rw [actionOf_lastAcc]
    by_cases hb : other = b
    · subst hb; exact .inr ⟨rfl, h, by simp⟩
    · exact .inl (lastAcc_setLastAcc_other _ _ hb)

/-- An edge operation writes the display state, its record and, through a lookup with an illegal digit, a fault bit and the count
of free values (R68, R107). -/
theorem performEdge_frame (b : Button) (s : State) :
    performEdge b s = { s with
      digit := (performEdge b s).digit, en := (performEdge b s).en, buf := (performEdge b s).buf,
      lastAccInc := (performEdge b s).lastAccInc, lastAccDec := (performEdge b s).lastAccDec,
      lastAccTog := (performEdge b s).lastAccTog,
      fault := (performEdge b s).fault, freeCount := (performEdge b s).freeCount } := by
  rcases performEdge_cases b s with ⟨_, h⟩ | ⟨_, h⟩ <;> rw [h]
  rw [actionOf_frame]; rfl

@[simp] theorem performEdge_cfg (b : Button) (s : State) : (performEdge b s).cfg = s.cfg := by rw [performEdge_frame]
@[simp] theorem performEdge_lastTog (b : Button) (s : State) : (performEdge b s).lastTog = s.lastTog := by rw [performEdge_frame]
@[simp] theorem performEdge_ind (b : Button) (s : State) : (performEdge b s).ind = s.ind := by rw [performEdge_frame]
@[simp] theorem performEdge_statusOut (b : Button) (s : State) : (performEdge b s).statusOut = s.statusOut := by rw [performEdge_frame]
@[simp] theorem performEdge_now (b : Button) (s : State) : (performEdge b s).now = s.now := by rw [performEdge_frame]
@[simp] theorem performEdge_btnPrev (b : Button) (s : State) : (performEdge b s).btnPrev = s.btnPrev := by rw [performEdge_frame]
@[simp] theorem performEdge_phase (b : Button) (s : State) : (performEdge b s).phase = s.phase := by rw [performEdge_frame]
@[simp] theorem performEdge_idx (b : Button) (s : State) : (performEdge b s).idx = s.idx := by rw [performEdge_frame]
@[simp] theorem performEdge_sleepStart (b : Button) (s : State) : (performEdge b s).sleepStart = s.sleepStart := by rw [performEdge_frame]
@[simp] theorem performEdge_tx (b : Button) (s : State) : (performEdge b s).tx = s.tx := by rw [performEdge_frame]
@[simp] theorem performEdge_txMark (b : Button) (s : State) : (performEdge b s).txMark = s.txMark := by rw [performEdge_frame]
@[simp] theorem performEdge_inputs (b : Button) (s : State) : (performEdge b s).inputs = s.inputs := by rw [performEdge_frame]

/-- With a legal digit an edge operation records nothing and uses no free value, and the digit stays legal. -/
theorem performEdge_legal {b : Button} {s : State} (h : DigitLegal s) :
    (performEdge b s).fault = s.fault ∧ (performEdge b s).freeCount = s.freeCount ∧ DigitLegal (performEdge b s) := by
  rcases performEdge_cases b s with ⟨_, e⟩ | ⟨_, e⟩ <;> rw [e]
  · exact ⟨rfl, rfl, h⟩
  cases b with
  | inc =>
    refine ⟨by simp [actionOf, incAction_eq], by simp [actionOf, incAction_eq], ?_⟩
    simp only [DigitLegal, actionOf, incAction_eq, bufWrite_digit, setDigit_digit, digitUp_toNat]; omega
  | dec =>
    refine ⟨by simp [actionOf, decAction_eq], by simp [actionOf, decAction_eq], ?_⟩
    simp only [DigitLegal, actionOf, decAction_eq, bufWrite_digit, setDigit_digit, digitDown_toNat]; omega
  | tog =>
    cases hen : s.en with
    | true =>
      have : actionOf .tog (s.setLastAcc .tog s.now) = ((s.setLastAcc .tog s.now).setEn false).clear :=
        togAction_disables (by simpa using hen)
      rw [this]; exact ⟨rfl, rfl, h⟩
    | false =>
      have : actionOf .tog (s.setLastAcc .tog s.now) = ((s.setLastAcc .tog s.now).setEn true).refresh :=
        togAction_enables (by simpa using hen)
      rw [this, refresh_legal (by simp only [setEn_digit, setLastAcc_digit]; omega)]
      exact ⟨rfl, rfl, h⟩

/-- One turn of the loop of `SAMPLE`. -/
theorem sampleButton_cases (lv : Levels) (b : Button) (s : State) :
    (fallingEdge s.btnPrev lv b = true ∧ sampleButton lv b s = performEdge b s) ∨
      (fallingEdge s.btnPrev lv b = false ∧ sampleButton lv b s = s) := by
  cases h : fallingEdge s.btnPrev lv b <;> simp [sampleButton, h]

@[simp] theorem sampleButton_cfg (lv : Levels) (b : Button) (s : State) : (sampleButton lv b s).cfg = s.cfg := by
  rcases sampleButton_cases lv b s with ⟨_, h⟩ | ⟨_, h⟩ <;> simp [h]
@[simp] theorem sampleButton_lastTog (lv : Levels) (b : Button) (s : State) : (sampleButton lv b s).lastTog = s.lastTog := by
  rcases sampleButton_cases lv b s with ⟨_, h⟩ | ⟨_, h⟩ <;> simp [h]
@[simp] theorem sampleButton_ind (lv : Levels) (b : Button) (s : State) : (sampleButton lv b s).ind = s.ind := by
  rcases sampleButton_cases lv b s with ⟨_, h⟩ | ⟨_, h⟩ <;> simp [h]
@[simp] theorem sampleButton_statusOut (lv : Levels) (b : Button) (s : State) : (sampleButton lv b s).statusOut = s.statusOut := by
  rcases sampleButton_cases lv b s with ⟨_, h⟩ | ⟨_, h⟩ <;> simp [h]
@[simp] theorem sampleButton_now (lv : Levels) (b : Button) (s : State) : (sampleButton lv b s).now = s.now := by
  rcases sampleButton_cases lv b s with ⟨_, h⟩ | ⟨_, h⟩ <;> simp [h]
@[simp] theorem sampleButton_btnPrev (lv : Levels) (b : Button) (s : State) : (sampleButton lv b s).btnPrev = s.btnPrev := by
  rcases sampleButton_cases lv b s with ⟨_, h⟩ | ⟨_, h⟩ <;> simp [h]
@[simp] theorem sampleButton_phase (lv : Levels) (b : Button) (s : State) : (sampleButton lv b s).phase = s.phase := by
  rcases sampleButton_cases lv b s with ⟨_, h⟩ | ⟨_, h⟩ <;> simp [h]
@[simp] theorem sampleButton_idx (lv : Levels) (b : Button) (s : State) : (sampleButton lv b s).idx = s.idx := by
  rcases sampleButton_cases lv b s with ⟨_, h⟩ | ⟨_, h⟩ <;> simp [h]
@[simp] theorem sampleButton_sleepStart (lv : Levels) (b : Button) (s : State) : (sampleButton lv b s).sleepStart = s.sleepStart := by
  rcases sampleButton_cases lv b s with ⟨_, h⟩ | ⟨_, h⟩ <;> simp [h]
@[simp] theorem sampleButton_tx (lv : Levels) (b : Button) (s : State) : (sampleButton lv b s).tx = s.tx := by
  rcases sampleButton_cases lv b s with ⟨_, h⟩ | ⟨_, h⟩ <;> simp [h]
@[simp] theorem sampleButton_txMark (lv : Levels) (b : Button) (s : State) : (sampleButton lv b s).txMark = s.txMark := by
  rcases sampleButton_cases lv b s with ⟨_, h⟩ | ⟨_, h⟩ <;> simp [h]
@[simp] theorem sampleButton_inputs (lv : Levels) (b : Button) (s : State) : (sampleButton lv b s).inputs = s.inputs := by
  rcases sampleButton_cases lv b s with ⟨_, h⟩ | ⟨_, h⟩ <;> simp [h]

/-! ## The main loop -/

theorem advanceSweep_cases (s : State) :
    (s.idx = 24#5 ∧ s.advanceSweep = s.setPc .sleep 0#5) ∨
      (s.idx ≠ 24#5 ∧ s.advanceSweep = s.setPc .render (s.idx + 1#5)) := by
  by_cases h : s.idx = 24#5
  · exact .inl ⟨h, by simp [State.advanceSweep, h]⟩
  · exact .inr ⟨h, by simp [State.advanceSweep, h]⟩

theorem cellColor_eq (s : State) (k : Nat) : cellColor s.cfg (s.buf.getLsbD k) s.en = frameWord s.cfg s.en s.buf k := by
  simp [cellColor, frameWord, Bool.and_comm]

/-- All a main-loop operation can do when it answers a next state. -/
theorem mainLoop_cases {i : Instr} {s t : State} (hi : i.opClass = .mainLoop) (h : exec i s = .next t) :
    (i = .blink ∧ s.phase = .blink ∧ t = (if s.blinkDue = true then s.toggleIndicator else s).setPc .render 0#5) ∨
    (i = .pixel ∧ s.phase = .render ∧ s.idx.toNat < 25 ∧
      t = (s.emit (frameWord s.cfg s.en s.buf s.idx.toNat)).advanceSweep) ∨
    (i = .sleep ∧ s.phase = .sleep ∧ t = (s.setSleepStart s.now).setPc .wait 0#5) ∨
    (i = .wake ∧ s.phase = .wait ∧ s.cfg.tSleep ≤ s.elapsed s.sleepStart ∧ t = s.setPc .blink 0#5) := by
  cases i with
  | blink =>
    by_cases hp : s.phase = .blink
    · rw [exec, execBlink, if_pos hp] at h; cases h; exact .inl ⟨rfl, hp, rfl⟩
    · rw [exec, execBlink, if_neg hp] at h; cases h
  | pixel =>
    by_cases hp : s.phase = .render
    · rw [exec, execPixel, if_pos hp] at h
      rcases Nat.lt_or_ge s.idx.toNat 25 with hk | hk
      · rw [bufRead_cell hk] at h; cases h; rw [cellColor_eq]; exact .inr (.inl ⟨rfl, hp, hk, rfl⟩)
      · rw [bufRead_missing hk] at h; cases h
    · rw [exec, execPixel, if_neg hp] at h; cases h
  | sleep =>
    by_cases hp : s.phase = .sleep
    · rw [exec, execSleep, if_pos hp] at h; cases h; exact .inr (.inr (.inl ⟨rfl, hp, rfl⟩))
    · rw [exec, execSleep, if_neg hp] at h; cases h
  | wake =>
    by_cases hp : s.phase = .wait ∧ s.sleepOver = true
    · rw [exec, execWake, if_pos hp] at h; cases h
      exact .inr (.inr (.inr ⟨rfl, hp.1, by simpa [State.sleepOver] using hp.2, rfl⟩))
    · rw [exec, execWake, if_neg hp] at h; cases h
  | edgeInc => cases hi
  | edgeDec => cases hi
  | edgeTog => cases hi
  | edgeUnk => cases hi
  | tick => cases hi
  | sample lv => cases hi
  | reset => cases hi

/-- What `SAMPLE lv` leaves: the three turns of its loop, then the levels. -/
def sampled (lv : Levels) (s : State) : State :=
  (sampleButton lv .tog (sampleButton lv .dec (sampleButton lv .inc s))).setBtnPrev lv

/-- All an operation outside the main loop can do: it always answers a next state, and this is it. -/
theorem nonMainLoop_cases {i : Instr} {s t : State} (hi : i.opClass ≠ .mainLoop) (h : exec i s = .next t) :
    (∃ b, i = edgeOp b ∧ t = performEdge b s) ∨
    (i = .edgeUnk ∧ t = if s.cfg.strict = true then s.raise .unknownPin else s) ∨
    (∃ lv, i = .sample lv ∧ t = sampled lv s) ∨
    (i = .tick ∧ t = s.setNow ((s.now + 1) % 2 ^ s.cfg.tw)) ∨
    (i = .reset ∧ execReset s = .next t) := by
  cases i with
  | edgeInc => cases h; exact .inl ⟨.inc, rfl, rfl⟩
  | edgeDec => cases h; exact .inl ⟨.dec, rfl, rfl⟩
  | edgeTog => cases h; exact .inl ⟨.tog, rfl, rfl⟩
  | edgeUnk => cases h; exact .inr (.inl ⟨rfl, rfl⟩)
  | sample lv => cases h; exact .inr (.inr (.inl ⟨lv, rfl, rfl⟩))
  | tick => cases h; exact .inr (.inr (.inr (.inl ⟨rfl, rfl⟩)))
  | reset => exact .inr (.inr (.inr (.inr ⟨rfl, h⟩)))
  | blink => exact absurd rfl hi
  | pixel => exact absurd rfl hi
  | sleep => exact absurd rfl hi
  | wake => exact absurd rfl hi

@[simp] theorem sampled_cfg (lv : Levels) (s : State) : (sampled lv s).cfg = s.cfg := by simp [sampled]
@[simp] theorem sampled_lastTog (lv : Levels) (s : State) : (sampled lv s).lastTog = s.lastTog := by simp [sampled]
@[simp] theorem sampled_ind (lv : Levels) (s : State) : (sampled lv s).ind = s.ind := by simp [sampled]
@[simp] theorem sampled_statusOut (lv : Levels) (s : State) : (sampled lv s).statusOut = s.statusOut := by simp [sampled]
@[simp] theorem sampled_now (lv : Levels) (s : State) : (sampled lv s).now = s.now := by simp [sampled]
@[simp] theorem sampled_phase (lv : Levels) (s : State) : (sampled lv s).phase = s.phase := by simp [sampled]
@[simp] theorem sampled_idx (lv : Levels) (s : State) : (sampled lv s).idx = s.idx := by simp [sampled]
@[simp] theorem sampled_sleepStart (lv : Levels) (s : State) : (sampled lv s).sleepStart = s.sleepStart := by simp [sampled]
@[simp] theorem sampled_tx (lv : Levels) (s : State) : (sampled lv s).tx = s.tx := by simp [sampled]
@[simp] theorem sampled_txMark (lv : Levels) (s : State) : (sampled lv s).txMark = s.txMark := by simp [sampled]
@[simp] theorem sampled_inputs (lv : Levels) (s : State) : (sampled lv s).inputs = s.inputs := by simp [sampled]
@[simp] theorem sampled_btnPrev (lv : Levels) (s : State) : (sampled lv s).btnPrev = lv := rfl

/-! ## Runs and steps -/

theorem runOps_append (l₁ l₂ : List Instr) (s : State) :
    runOps (l₁ ++ l₂) s = match runOps l₁ s with
      | .next t => runOps l₂ t
      | .fault r => .fault r
      | .refused r => .refused r := by
  induction l₁ generalizing s with
  | nil => rfl
  | cons i rest ih =>
    simp only [List.cons_append, runOps]
    cases exec i s with
    | next t => exact ih t
    | fault r => rfl
    | refused r => rfl

/-- A run over an operation and then a trace goes through the operation's next state. -/
theorem runOps_cons_next {i : Instr} {rest : List Instr} {s t : State} (h : runOps (i :: rest) s = .next t) :
    ∃ u, exec i s = .next u ∧ runOps rest u = .next t := by
  simp only [runOps] at h
  split at h
  · exact ⟨_, ‹_›, h⟩
  · cases h
  · cases h

/-- All a step can do when it answers a next state: it runs one operation, on the state with what the environment offered
taken. -/
theorem step_cases {s t : State} (h : step s = .next t) :
    ∃ (i : Instr) (rest : List Stimulus), exec i (s.setInputs rest) = .next t ∧
      ((s.inputs = [] ∧ rest = [] ∧ i = s.ownOperation) ∨ (∃ p, s.inputs = .pin p :: rest ∧ i = decodePin s.cfg p) ∨
        (∃ op, s.inputs = .code op :: rest ∧ decodeOp op = .operation i)) := by
  unfold step State.fetch at h
  split at h
  · next i ready hf =>
    split at hf
    · next hin =>
      cases hf
      have : s.setInputs [] = s := by cases s; simp only [State.setInputs] at *; simp_all
      exact ⟨_, [], this ▸ h, .inl ⟨hin, rfl, rfl⟩⟩
    · next p rest hin => cases hf; exact ⟨_, rest, h, .inr (.inl ⟨p, hin, rfl⟩)⟩
    · next op rest hin =>
      split at hf
      · next hd => cases hf; exact ⟨_, rest, h, .inr (.inr ⟨op, hin, hd⟩)⟩
      · cases hf
  · cases h

/-! ## Time over one operation and over a run -/

@[simp] theorem toggleIndicator_cfg (s : State) : s.toggleIndicator.cfg = s.cfg := rfl
@[simp] theorem toggleIndicator_now (s : State) : s.toggleIndicator.now = s.now := rfl
@[simp] theorem advanceSweep_cfg (s : State) : s.advanceSweep.cfg = s.cfg := by
  rcases advanceSweep_cases s with ⟨_, h⟩ | ⟨_, h⟩ <;> simp [h]
@[simp] theorem advanceSweep_now (s : State) : s.advanceSweep.now = s.now := by
  rcases advanceSweep_cases s with ⟨_, h⟩ | ⟨_, h⟩ <;> simp [h]

/-- No operation changes the configuration. -/
theorem exec_cfg {i : Instr} {s t : State} (h : exec i s = .next t) : t.cfg = s.cfg := by
  by_cases hi : i.opClass = .mainLoop
  · rcases mainLoop_cases hi h with ⟨_, _, rfl⟩ | ⟨_, _, _, rfl⟩ | ⟨_, _, rfl⟩ | ⟨_, _, _, rfl⟩
    · split <;> simp
    · simp
    · simp
    · simp
  · rcases nonMainLoop_cases hi h with ⟨b, _, rfl⟩ | ⟨_, rfl⟩ | ⟨lv, _, rfl⟩ | ⟨_, rfl⟩ | ⟨_, hr⟩
    · simp
    · split <;> simp
    · simp
    · simp
    · cases hr; rfl

/-- Only `TICK` and `RESET` change `now`. -/
theorem exec_now {i : Instr} {s t : State} (hi : i ≠ .reset) (h : exec i s = .next t) :
    t.now = if i = .tick then (s.now + 1) % 2 ^ s.cfg.tw else s.now := by
  by_cases hm : i.opClass = .mainLoop
  · rcases mainLoop_cases hm h with ⟨rfl, _, rfl⟩ | ⟨rfl, _, _, rfl⟩ | ⟨rfl, _, rfl⟩ | ⟨rfl, _, _, rfl⟩
    · rw [if_neg (show Instr.blink ≠ .tick by decide)]; split <;> simp
    · simp
    · simp
    · simp
  · rcases nonMainLoop_cases hm h with ⟨b, rfl, rfl⟩ | ⟨rfl, rfl⟩ | ⟨lv, rfl, rfl⟩ | ⟨rfl, rfl⟩ | ⟨rfl, _⟩
    · cases b <;> simp [edgeOp]
    · rw [if_neg (show Instr.edgeUnk ≠ .tick by decide)]; split <;> simp
    · simp
    · simp
    · exact absurd rfl hi

/-- A run without `RESET` keeps the configuration, and `now` advances by its `TICK`s, modulo `2^TW` (43_main_loop.md R96). -/
theorem runOps_now {ops : List Instr} {s t : State} (hr : .reset ∉ ops) (h : runOps ops s = .next t) :
    t.cfg = s.cfg ∧ t.now % 2 ^ s.cfg.tw = (s.now + ticksIn ops) % 2 ^ s.cfg.tw := by
  induction ops generalizing s with
  | nil => cases h; exact ⟨rfl, rfl⟩
  | cons i rest ih =>
    obtain ⟨u, hu, hrest⟩ := runOps_cons_next h
    obtain ⟨hc, hn⟩ := ih (fun hmem => hr (List.mem_cons_of_mem _ hmem)) hrest
    have hne : i ≠ .reset := fun e => hr (e ▸ List.mem_cons_self)
    have hcfg := exec_cfg hu
    refine ⟨hc.trans hcfg, ?_⟩
    rw [hcfg] at hn
    rw [hn, exec_now hne hu]
    by_cases ht : i = .tick
    · subst ht
      have : ticksIn (.tick :: rest) = ticksIn rest + 1 := by simp [ticksIn]
      rw [if_pos rfl, this, Nat.mod_add_mod]
      congr 1; omega
    · have : ticksIn (i :: rest) = ticksIn rest := by simp [ticksIn, ht]
      rw [if_neg ht, this]

/-- Every run without `RESET` keeps `now` a `TW`-bit value (10_state.md R18). -/
theorem runOps_now_lt {ops : List Instr} {s t : State} (hr : .reset ∉ ops) (h : runOps ops s = .next t)
    (hs : s.now < 2 ^ s.cfg.tw) : t.now < 2 ^ s.cfg.tw := by
  induction ops generalizing s with
  | nil => cases h; exact hs
  | cons i rest ih =>
    obtain ⟨u, hu, hrest⟩ := runOps_cons_next h
    have hne : i ≠ .reset := fun e => hr (e ▸ List.mem_cons_self)
    have hcfg := exec_cfg hu
    rw [← hcfg]
    refine ih (fun hmem => hr (List.mem_cons_of_mem _ hmem)) hrest ?_
    rw [hcfg, exec_now hne hu]
    split
    · exact Nat.mod_lt _ (by positivity)
    · exact hs

/-- The turn of the loop of `SAMPLE` for a button whose level has not fallen, or for another button, leaves the record. -/
theorem sampleButton_lastAcc {b other : Button} {lv : Levels} {s : State}
    (h : other = b → fallingEdge s.btnPrev lv b = false) : (sampleButton lv other s).lastAcc b = s.lastAcc b := by
  rcases sampleButton_cases lv other s with ⟨hf, e⟩ | ⟨_, e⟩ <;> rw [e]
  rcases performEdge_lastAcc other b s with h' | ⟨rfl, _, _⟩
  · exact h'
  · rw [h rfl] at hf; cases hf

/-- In a trace without an event of button `b`, one operation leaves the record of `b`, and the rest is such a trace from the levels
then remembered (40_button_input.md R60, R68). -/
theorem exec_edgeFree {b : Button} {i : Instr} {rest : List Instr} {s t : State} (hi : i ≠ .reset)
    (hq : edgeFree b s.btnPrev (i :: rest) = true) (h : exec i s = .next t) :
    t.lastAcc b = s.lastAcc b ∧ edgeFree b t.btnPrev rest = true := by
  by_cases hm : i.opClass = .mainLoop
  · have same : t.btnPrev = s.btnPrev ∧ t.lastAcc b = s.lastAcc b := by
      rcases mainLoop_cases hm h with ⟨_, _, rfl⟩ | ⟨_, _, _, rfl⟩ | ⟨_, _, rfl⟩ | ⟨_, _, _, rfl⟩
      · split <;> cases b <;> exact ⟨rfl, rfl⟩
      · rcases advanceSweep_cases (s.emit (frameWord s.cfg s.en s.buf s.idx.toNat)) with ⟨_, e⟩ | ⟨_, e⟩ <;>
          rw [e] <;> cases b <;> exact ⟨rfl, rfl⟩
      · cases b <;> exact ⟨rfl, rfl⟩
      · cases b <;> exact ⟨rfl, rfl⟩
    refine ⟨same.2, same.1 ▸ ?_⟩
    cases i with
    | blink => exact hq
    | pixel => exact hq
    | sleep => exact hq
    | wake => exact hq
    | _ => cases hm
  · rcases nonMainLoop_cases hm h with ⟨c, rfl, rfl⟩ | ⟨rfl, rfl⟩ | ⟨lv, rfl, rfl⟩ | ⟨rfl, rfl⟩ | ⟨rfl, _⟩
    · have hne : b ≠ c ∧ edgeFree b s.btnPrev rest = true := by cases c <;> simpa [edgeOp, edgeFree] using hq
      rcases performEdge_lastAcc c b s with e | ⟨e, _⟩
      · exact ⟨e, by rw [performEdge_btnPrev]; exact hne.2⟩
      · exact absurd e hne.1
    · split <;> cases b <;> exact ⟨rfl, hq⟩
    · simp only [edgeFree, Bool.and_eq_true, Bool.not_eq_true'] at hq
      refine ⟨?_, by simpa [sampled] using hq.2⟩
      have keep : ∀ other, ∀ u : State, u.btnPrev = s.btnPrev → (sampleButton lv other u).lastAcc b = u.lastAcc b :=
        fun other u hu => sampleButton_lastAcc fun _ => hu ▸ hq.1
      have e : (sampled lv s).lastAcc b =
          (sampleButton lv .tog (sampleButton lv .dec (sampleButton lv .inc s))).lastAcc b := by cases b <;> rfl
      rw [e, keep _ _ (by simp), keep _ _ (by simp), keep _ _ rfl]
    · cases b <;> exact ⟨rfl, hq⟩
    · exact absurd rfl hi

/-- A run without `RESET` and without an event of button `b` leaves the record of `b`. -/
theorem runOps_edgeFree {b : Button} {ops : List Instr} {s t : State} (hr : .reset ∉ ops)
    (hq : edgeFree b s.btnPrev ops = true) (h : runOps ops s = .next t) : t.lastAcc b = s.lastAcc b := by
  induction ops generalizing s with
  | nil => cases h; rfl
  | cons i rest ih =>
    obtain ⟨u, hu, hrest⟩ := runOps_cons_next h
    have hne : i ≠ .reset := fun e => hr (e ▸ List.mem_cons_self)
    obtain ⟨hl, hq'⟩ := exec_edgeFree hne hq hu
    exact (ih (fun hmem => hr (List.mem_cons_of_mem _ hmem)) hq' hrest).trans hl

/-- A run of `TICK`s alone changes `now` alone. -/
theorem runOps_ticks (n : Nat) (s : State) :
    ∃ m, runOps (List.replicate n .tick) s = .next (s.setNow m) ∧ m % 2 ^ s.cfg.tw = (s.now + n) % 2 ^ s.cfg.tw ∧
      (s.now < 2 ^ s.cfg.tw → m < 2 ^ s.cfg.tw) := by
  induction n generalizing s with
  | zero => exact ⟨s.now, rfl, rfl, id⟩
  | succ n ih =>
    obtain ⟨m, hm, hmod, hlt⟩ := ih (s.setNow ((s.now + 1) % 2 ^ s.cfg.tw))
    refine ⟨m, hm, ?_, fun _ => hlt (Nat.mod_lt _ (by positivity))⟩
    rw [setNow_cfg, setNow_now, Nat.mod_add_mod] at hmod
    rw [hmod]; congr 1; omega

end Sys2Proof.Machine
end

