-- ==== Sys2Proof/Laws/PerInstr.lean ====
section
/-!
SUPPORT. The families of lemmas that have one member per constructor of `Instr`.
-/

/-- The code of an operation reads back as that operation (30_encoding.md R47). -/
def Sys2Proof.Laws.CodeReadsBack.Statement (i : Sys2Proof.Instr) : Prop :=
  Sys2Proof.decodeOp (Sys2Proof.encodeOp i) = .operation i

namespace Sys2Proof.Laws.CodeReadsBack

theorem edgeInc : Statement .edgeInc := rfl
theorem edgeDec : Statement .edgeDec := rfl
theorem edgeTog : Statement .edgeTog := rfl
theorem edgeUnk : Statement .edgeUnk := rfl
theorem blink : Statement .blink := rfl
theorem pixel : Statement .pixel := rfl
theorem sleep : Statement .sleep := rfl
theorem wake : Statement .wake := rfl
theorem tick : Statement .tick := rfl
theorem sample (lv : Sys2Proof.Levels) : Statement (.sample lv) := Sys2Proof.decodeOp_encodeOp_sample lv
theorem reset : Statement .reset := rfl

end Sys2Proof.Laws.CodeReadsBack
end

