-- ==== Sys2Proof/Tests/Slice0.lean ====
section
/-!
SUPPORT. Tests. Expected values are the vectors of spec/95_test_vectors.md, named in each comment, or the tables of
spec/20_memory.md and spec/30_encoding.md. The last section shows, for each statement with hypotheses, a state that meets them.
-/

namespace Sys2Proof.Tests

open Sys2Proof Sys2Proof.Machine

/-! ## Codes (30_encoding.md R47, R51) -/

-- V-ENC-1
theorem test_decode_edges :
    decodeOp 0b00000000#8 = .operation .edgeInc ∧ decodeOp 0b00000001#8 = .operation .edgeDec ∧
    decodeOp 0b00000010#8 = .operation .edgeTog ∧ decodeOp 0b00000011#8 = .operation .edgeUnk := by decide

-- V-ENC-2
theorem test_decode_main_loop :
    decodeOp 0b00100000#8 = .operation .blink ∧ decodeOp 0b00100001#8 = .operation .pixel ∧
    decodeOp 0b00100010#8 = .operation .sleep ∧ decodeOp 0b00100011#8 = .operation .wake := by decide

-- V-ENC-3, V-ENC-5
theorem test_decode_tick_reset :
    decodeOp 0b01000000#8 = .operation .tick ∧ decodeOp 0b11111111#8 = .operation .reset := by decide

-- V-ENC-4: 01100ttt
theorem test_decode_sample :
    decodeOp 0b01100000#8 = .operation (.sample 0b000#3) ∧ decodeOp 0b01100001#8 = .operation (.sample 0b001#3) ∧
    decodeOp 0b01100100#8 = .operation (.sample 0b100#3) ∧ decodeOp 0b01100111#8 = .operation (.sample 0b111#3) := by decide

-- V-ENC-6
theorem test_decode_reserved :
    [0x04#8, 0x1F#8, 0x24#8, 0x3F#8, 0x41#8, 0x5F#8, 0x68#8, 0x7F#8, 0x80#8, 0xFE#8].all
      (fun op => match decodeOp op with | .operation _ => false | .reserved r => r.code == op) = true := by decide

-- The example encodings below R56: `EDGE_INC ; TICK ; PIXEL`, and `PRESS 2`.
theorem test_trace_codes :
    encodeTrace [.edgeInc, .tick, .pixel] = [0x00#8, 0x40#8, 0x21#8] ∧
    encodeTrace (TraceItem.press .tog).expand = [0x63#8, 0x67#8] := by decide

theorem test_table_word : decodeTableWord 8 0x66 = some (.sample 0b110#3) ∧ decodeTableWord 8 0x04 = none := by decide

/-! ## Well-formedness (00_scope.md R5) -/

theorem test_wf_vectors : Config.vectors.wellFormed = true := by decide
theorem test_wf_refuses_width : { Config.vectors with tw := 9 }.widthOk = false := by decide
theorem test_wf_refuses_threshold : { Config.vectors with tDebounce := 2 ^ 32 }.thresholdsFit = false := by decide
theorem test_wf_refuses_button_pins : { Config.vectors with pinTog := 0 }.buttonPinsDistinct = false := by decide
theorem test_wf_refuses_output_pins :
    { Config.vectors with pinData := 3 }.outputPinsDistinct = false ∧
    { Config.vectors with pinStatus := 1 }.outputPinsDistinct = false := by decide
theorem test_wf_operation : (Instr.sample 0b101#3).wellFormed = true := by decide

/-! ## The pattern table (20_memory.md section 3) -/

/-- A drawn row of five cells, `X` lit. -/
def drawnRow (s : String) : List Bool := s.toList.map (· == 'X')

-- The drawings of the digits 4 and 7 against their masks; cell numbering R32, list order R53.
theorem test_pattern_drawings :
    maskOfCells ([".X.X.", ".X.X.", ".XXX.", "...X.", "...X."].flatMap drawnRow) = (patternDefault[4]).toNat ∧
    maskOfCells ([".XXX.", "...X.", "...X.", "...X.", "...X."].flatMap drawnRow) = (patternDefault[7]).toNat := by decide
theorem test_cell_numbers : cellIndex 0 4 = 4 ∧ cellIndex 1 0 = 5 ∧ cellIndex 4 4 = 24 := by decide

/-! ## One operation at a time -/

/-- The start state of a vector: reset with the parameters of 95_test_vectors.md. -/
def start : State := State.resetFor Config.vectors

/-- A step that goes on to a state with the property. -/
def gives (o : Host.Outcome State Fault Refusal) (p : State → Bool) : Bool :=
  match o with
  | .next t => p t
  | .fault _ => false
  | .refused _ => false

/-- A step refused for this reason. -/
def refuses (o : Host.Outcome State Fault Refusal) (r : Refusal) : Bool :=
  match o with
  | .next _ => false
  | .fault _ => false
  | .refused q => decide (q = r)

-- V-DEB-1, V-DEB-2
theorem test_edgeInc_threshold :
    gives (exec .edgeInc { start with now := 400 }) (fun t => decide (t = { start with now := 400 })) = true ∧
    gives (exec .edgeInc { start with now := 401 })
      (fun t => decide (t = { start with now := 401, digit := 1, buf := 0x0E210C4#25, lastAccInc := 401 })) = true := by decide

-- V-DEB-8 (across the wrap), V-INC-3
theorem test_edgeInc_wraps :
    gives (exec .edgeInc { start with now := 0x181, lastAccInc := 0xFFFFFFF0, digit := 5 })
      (fun t => decide (t.digit = 6 ∧ t.buf = 0x0E5384E#25 ∧ t.lastAccInc = 0x181)) = true ∧
    gives (exec .edgeInc { start with now := 1000, digit := 9 })
      (fun t => decide (t.digit = 0 ∧ t.buf = 0x0E5294E#25)) = true := by decide

-- V-DEC-1
theorem test_edgeDec_wraps :
    gives (exec .edgeDec { start with now := 1000 })
      (fun t => decide (t = { start with now := 1000, digit := 9, buf := 0x0E4394E#25, lastAccDec := 1000 })) = true := by decide

-- V-DEB-6: another button's window does not apply.
theorem test_edgeDec_own_window :
    gives (exec .edgeDec { start with now := 1200, lastAccInc := 1000, digit := 1, buf := 0x0E210C4#25 })
      (fun t => decide (t.digit = 0 ∧ t.lastAccInc = 1000 ∧ t.lastAccDec = 1200)) = true := by decide

-- V-TOG-1, V-TOG-2
theorem test_edgeTog_both_ways :
    gives (exec .edgeTog { start with now := 1000, digit := 7, buf := 0x084210E#25 })
      (fun t => decide (t.en = false ∧ t.buf = 0#25 ∧ t.lastAccTog = 1000 ∧ t.digit = 7)) = true ∧
    gives (exec .edgeTog { start with now := 1000, digit := 7, en := false, buf := 0#25 })
      (fun t => decide (t.en = true ∧ t.buf = 0x084210E#25)) = true := by decide

-- V-UNK-1, V-UNK-2
theorem test_edgeUnk :
    gives (exec .edgeUnk start) (fun t => decide (t = start)) = true ∧
    gives (exec .edgeUnk (State.resetFor { Config.vectors with strict := true })) (fun t => decide (t.fault = 0b01#2)) = true := by
  decide

-- V-SMP-7: three edges of one sample, in the order 0, 1, 2.
theorem test_sample_three :
    gives (exec (.sample 0b000#3) { start with now := 1000 })
      (fun t => decide (t = { start with
        now := 1000, en := false, buf := 0#25, lastAccInc := 1000, lastAccDec := 1000, lastAccTog := 1000, btnPrev := 0b000#3 }))
      = true := by decide

-- V-SMP-9: two bits rise, one falls.
theorem test_sample_mixed :
    gives (exec (.sample 0b101#3) { start with now := 1000, btnPrev := 0b010#3 })
      (fun t => decide (t = { start with
        now := 1000, digit := 9, buf := 0x0E4394E#25, lastAccDec := 1000, btnPrev := 0b101#3 })) = true := by decide

-- V-PIX-1, V-PIX-3
theorem test_pixel_lit_and_dark :
    gives (exec .pixel { start with phase := .render, idx := 6, buf := 0x0E210C4#25 })
      (fun t => decide (t.tx = [0x002000#24] ∧ t.idx = 7 ∧ t.phase = .render)) = true ∧
    gives (exec .pixel { start with phase := .render, idx := 6, en := false, buf := 0x0E210C4#25 })
      (fun t => decide (t.tx = [0x000000#24] ∧ t.idx = 7)) = true := by decide

-- V-PIX-5, V-PIX-6
theorem test_pixel_last_and_stuck :
    gives (exec .pixel { start with phase := .render, idx := 24, buf := 0x1FFFFFF#25 })
      (fun t => decide (t.tx = [0x002000#24] ∧ t.phase = .sleep ∧ t.idx = 0)) = true ∧
    refuses (exec .pixel start) (.notEnabled .pixel) = true := by decide

-- V-BLK-1, V-BLK-3
theorem test_blink_due :
    gives (exec .blink { start with now := 99 }) (fun t => decide (t = { start with now := 99, phase := .render })) = true ∧
    gives (exec .blink { start with now := 250, lastTog := 100, ind := true, statusOut := true })
      (fun t => decide (t.ind = false ∧ t.statusOut = false ∧ t.lastTog = 250 ∧ t.phase = .render)) = true := by decide

-- V-BLK-6: the output level is a parameter.
theorem test_blink_polarity :
    gives (exec .blink { State.resetFor { Config.vectors with statusOnLevel := false } with now := 100 })
      (fun t => decide (t.ind = true ∧ t.statusOut = false)) = true := by decide

-- V-SLP-1
theorem test_sleep :
    gives (exec .sleep { start with phase := .sleep, now := 1234 })
      (fun t => decide (t = { start with phase := .wait, now := 1234, sleepStart := 1234 })) = true := by decide

-- V-WAK-1, V-WAK-2
theorem test_wake_guard :
    refuses (exec .wake { start with phase := .wait, sleepStart := 1234, now := 1333 }) (.notEnabled .wake) = true ∧
    gives (exec .wake { start with phase := .wait, sleepStart := 1234, now := 1334 }) (fun t => decide (t.phase = .blink)) = true := by
  decide

-- V-TCK-1, V-TCK-2
theorem test_tick :
    gives (exec .tick { start with now := 99 }) (fun t => decide (t = { start with now := 100 })) = true ∧
    gives (exec .tick { start with now := 0xFFFFFFFF }) (fun t => decide (t.now = 0)) = true := by decide

-- V-RST-1
theorem test_reset :
    gives (exec .reset { start with
        digit := 7, en := false, buf := 0#25, lastAccInc := 5000, lastAccDec := 4000, lastAccTog := 6000, lastTog := 6900,
        ind := true, statusOut := true, now := 7000, btnPrev := 0b010#3, phase := .render, idx := 13, sleepStart := 6800,
        fault := 0b11#2, tx := [0x002000#24] })
      (fun t => decide (t = { start with tx := [0x002000#24], txMark := 1 })) = true := by decide

/-! ## Steps -/

-- R6, R50, R51: an offered code, an offered pin event, a reserved code, and nothing offered.
theorem test_step_offers :
    gives (step { start with inputs := [.code 0x40#8] }) (fun t => decide (t = { start with now := 1 })) = true ∧
    gives (step { start with inputs := [.pin 1], now := 500 }) (fun t => decide (t.digit = 9 ∧ t.inputs = [])) = true ∧
    refuses (step { start with inputs := [.code 0x04#8] }) (.reservedCode (.buttonEvent 0x04#8)) = true ∧
    gives (step start) (fun t => decide (t = { start with phase := .render })) = true := by decide

-- The word given is the operation of the very next step, whatever the sequencer selects at reset.
theorem test_withFetchWord :
    gives (step (State.reset.withFetchWord 8 0x22)) (fun t => decide (t.phase = .wait)) = true ∧
    gives (step (State.reset.withFetchWord 8 0x23)) (fun t => decide (t.phase = .blink)) = true := by decide

-- A pattern lookup with `digit > 9` records `InvalidDigit` and goes on (R102, R103).
theorem test_invalid_digit :
    gives (exec .edgeTog { start with now := 401, digit := 12, en := false })
      (fun t => decide (t.fault = 0b10#2 ∧ t.en = true ∧ t.lastAccTog = 401)) = true := by decide

/-! ## Witnesses: states that meet the hypotheses of the statements -/

/-- Small parameters, so that a witness needs few steps. -/
def small : Config := { Config.vectors with tw := 10, tDebounce := 2, tBlink := 2, tSleep := 0, tActiveMax := some 1 }

/-- The reset state with the small parameters. -/
def tiny : State := State.resetFor small

theorem witness_ResetStateHasResetValues : start = State.resetFor Config.vectors := rfl
theorem witness_ResetStateMeetsInvariants : tiny = State.resetFor small := rfl

theorem witness_ElapsedIsDifferenceModuloWidth :
    (600 ≤ { start with now := 1000 }.now ∧ 1000 - 600 < 2 ^ start.cfg.tw) ∧ { start with now := 1000 }.elapsed 600 = 400 ∧
    { start with now := 0x180 }.elapsed 0xFFFFFFF0 = 400 := by decide

theorem witness_SleepRecordsItsStart : { start with phase := .sleep }.phase = .sleep ∧ start.phase ≠ .sleep := by decide

theorem witness_WakeEndsSleepOnceOver :
    (∃ s : State, s.phase = .wait ∧ s.elapsed s.sleepStart = s.cfg.tSleep) ∧
    (∃ s : State, s.phase = .wait ∧ s.elapsed s.sleepStart + 1 = s.cfg.tSleep) ∧ start.phase ≠ .wait :=
  ⟨⟨{ start with phase := .wait, now := 100 }, by decide⟩, ⟨{ start with phase := .wait, now := 99 }, by decide⟩, by decide⟩

theorem witness_BlinkTogglesExactlyWhenDue :
    (∃ s : State, s.phase = .blink ∧ s.elapsed s.lastTog = s.cfg.tBlink) ∧
    (∃ s : State, s.phase = .blink ∧ s.elapsed s.lastTog + 1 = s.cfg.tBlink) ∧ (∃ s : State, s.phase ≠ .blink) :=
  ⟨⟨{ start with now := 100 }, by decide⟩, ⟨{ start with now := 99 }, by decide⟩, ⟨{ start with phase := .wait }, by decide⟩⟩

theorem witness_PixelEmitsCellAndAdvances :
    (∃ s : State, s.phase = .render ∧ s.idx.toNat = 0) ∧ (∃ s : State, s.phase = .render ∧ s.idx.toNat = 23) ∧
    (∃ s : State, s.phase = .render ∧ s.idx.toNat = 24) ∧ start.phase ≠ .render :=
  ⟨⟨{ start with phase := .render }, by decide⟩, ⟨{ start with phase := .render, idx := 23 }, by decide⟩,
    ⟨{ start with phase := .render, idx := 24 }, by decide⟩, by decide⟩

theorem witness_PixelFaultsOnMissingCell :
    { start with phase := .render, idx := 25 }.phase = .render ∧ 24 < { start with phase := .render, idx := 25 }.idx.toNat := by
  decide

theorem witness_EdgeIncCountsUpWhenAccepted :
    { start with now := 400 }.elapsed start.lastAccInc = start.cfg.tDebounce ∧
    { start with now := 401 }.elapsed start.lastAccInc = start.cfg.tDebounce + 1 := by decide

theorem witness_EdgeDecCountsDownWhenAccepted :
    { start with now := 400 }.elapsed start.lastAccDec = start.cfg.tDebounce ∧
    { start with now := 401 }.elapsed start.lastAccDec = start.cfg.tDebounce + 1 := by decide

theorem witness_EdgeTogFlipsDisplayWhenAccepted :
    { start with now := 400 }.elapsed start.lastAccTog ≤ start.cfg.tDebounce ∧
    (start.cfg.tDebounce < { start with now := 401 }.elapsed start.lastAccTog ∧ start.en = true) ∧
    (∃ s : State, s.cfg.tDebounce < s.elapsed s.lastAccTog ∧ s.en = false ∧ s.digit.toNat = 9 ∧ DigitLegal s) :=
  ⟨by decide, by decide, ⟨{ start with now := 401, en := false, digit := 9 }, by decide⟩⟩

theorem witness_EdgeTogRecordsInvalidDigit :
    ∃ s : State, s.digit.toNat = 10 ∧ 9 < s.digit.toNat ∧ s.en = false ∧ s.cfg.tDebounce < s.elapsed s.lastAccTog :=
  ⟨{ start with now := 401, en := false, digit := 10 }, by decide⟩

theorem witness_EdgeUnkRecordsOnlyInTestBuild :
    start.cfg.strict = false ∧ (State.resetFor { Config.vectors with strict := true }).cfg.strict = true := by decide

theorem witness_EdgeWritesDisplayAndOwnRecordOnly : DigitLegal start := by decide

theorem witness_SampleWithoutFallRemembersLevels :
    ∀ k : Nat, { start with btnPrev := 0b010#3 }.btnPrev.getLsbD k = true → (0b110#3 : Levels).getLsbD k = true
  | 0 => by decide
  | 1 => by decide
  | 2 => by decide
  | k + 3 => fun h => by
    rw [BitVec.getLsbD_of_ge _ _ (by omega)] at h
    exact absurd h (by decide)

-- The last discarded moment: the window is 2 ms and two milliseconds pass.
theorem witness_WindowDiscardsUntilThreshold :
    ∃ s s' u : State, s.cfg.tDebounce < s.elapsed (s.lastAcc .inc) ∧ exec (edgeOp .inc) s = .next s' ∧
      s.now < 2 ^ s.cfg.tw ∧ s.cfg.tDebounce < 2 ^ s.cfg.tw ∧ Instr.reset ∉ [Instr.tick, .edgeDec, .edgeInc, .tick] ∧
      ticksIn [Instr.tick, .edgeDec, .edgeInc, .tick] = s.cfg.tDebounce ∧
      runOps [.tick, .edgeDec, .edgeInc, .tick] s' = .next u :=
  ⟨{ tiny with now := 3 }, _, _, by decide, rfl, by decide, by decide, by decide, by decide, rfl⟩

-- The first accepted moment: a discarded event inside the window, then a press of another button, three milliseconds in all.
theorem witness_WindowEndsAfterThreshold :
    ∃ s s' v u : State, s.cfg.tDebounce < s.elapsed (s.lastAcc .tog) ∧ exec (edgeOp .tog) s = .next s' ∧ s.now < 2 ^ s.cfg.tw ∧
      Instr.reset ∉ [Instr.tick, .edgeTog, .tick] ∧ Instr.reset ∉ [Instr.sample 0b110#3, .tick] ∧
      ticksIn [Instr.tick, .edgeTog, .tick] = s.cfg.tDebounce ∧
      s.cfg.tDebounce + 1 = ticksIn [Instr.tick, .edgeTog, .tick] + ticksIn [Instr.sample 0b110#3, .tick] ∧
      ticksIn [Instr.tick, .edgeTog, .tick] + ticksIn [Instr.sample 0b110#3, .tick] < 2 ^ s.cfg.tw ∧
      runOps [.tick, .edgeTog, .tick] s' = .next v ∧ runOps [.sample 0b110#3, .tick] v = .next u ∧
      edgeFree .tog v.btnPrev [.sample 0b110#3, .tick] = true :=
  ⟨{ tiny with now := 3 }, _, _, _, by decide, rfl, by decide, by decide, by decide, by decide, by decide, by decide, rfl, rfl,
    by decide⟩

-- An edge operation of the button and a sample in which its level falls are events of it; a release is none.
theorem test_edgeFree :
    edgeFree .inc 0b111#3 [.edgeInc] = false ∧ edgeFree .inc 0b111#3 [.tick, .sample 0b110#3] = false ∧
    edgeFree .inc 0b110#3 [.sample 0b111#3, .edgeDec] = true ∧ edgeFree .inc 0b110#3 [.sample 0b111#3, .sample 0b110#3] = false ∧
    edgeFree .inc 0b110#3 [.reset, .sample 0b110#3] = false := by decide

-- Both clauses at their boundary: `T_DEBOUNCE` ms and one more after reset.
theorem witness_ButtonsDeafAfterReset :
    small.tDebounce + 1 < 2 ^ small.tw ∧
    (∃ u : State, Instr.reset ∉ [Instr.tick, .sample 0b110#3, .tick] ∧
      runOps [.tick, .sample 0b110#3, .tick] (State.resetFor small) = .next u ∧
      ticksIn [Instr.tick, .sample 0b110#3, .tick] = small.tDebounce) ∧
    (∃ u : State, runOps (List.replicate (small.tDebounce + 1) .tick) (State.resetFor small) = .next u) :=
  ⟨by decide, ⟨_, by decide, rfl, by decide⟩, ⟨_, rfl⟩⟩

-- One whole round of a two-bit clock and one millisecond more, which is the window.
theorem witness_WindowRecursAfterWrap :
    ∃ s s' u : State, s.cfg.tDebounce < s.elapsed (s.lastAcc .dec) ∧ exec (edgeOp .dec) s = .next s' ∧ s.now < 2 ^ s.cfg.tw ∧
      1 = s.cfg.tDebounce ∧ s.cfg.tDebounce < 2 ^ s.cfg.tw ∧ runOps (List.replicate (1 * 2 ^ s.cfg.tw + 1) .tick) s' = .next u :=
  ⟨{ State.resetFor { small with tw := 2, tDebounce := 1 } with now := 2 }, _, _, by decide, rfl, by decide, by decide, by decide, rfl⟩

theorem witness_IncAndDecCommute :
    ∃ s : State, DigitLegal s ∧ s.cfg.tDebounce < s.elapsed s.lastAccInc ∧ s.cfg.tDebounce < s.elapsed s.lastAccDec :=
  ⟨{ start with now := 401, digit := 9 }, by decide⟩

theorem witness_CountAndToggleCommuteVisibly : DigitLegal start ∧ Button.dec ≠ .tog := by decide

theorem witness_TogglePairRestoresEnabledDisplay :
    ∃ s t : State, StateInv s ∧ s.en = true ∧ s.now < 2 ^ s.cfg.tw ∧ s.cfg.tDebounce < s.elapsed s.lastAccTog ∧
      s.cfg.tDebounce + 1 = 3 ∧ 3 < 2 ^ s.cfg.tw ∧ runOps ([.edgeTog] ++ List.replicate 3 .tick ++ [.edgeTog]) s = .next t :=
  ⟨{ tiny with now := 3 }, _, by decide, by decide, by decide, by decide, by decide, by decide, rfl⟩

theorem witness_ButtonOperationsLeaveMainContext :
    Instr.edgeTog.opClass = .button ∧ (Instr.sample 0b000#3).opClass = .button := by decide

theorem witness_MainLoopLeavesInterruptContext : ∃ t : State, Instr.blink.opClass = .mainLoop ∧ exec .blink start = .next t :=
  ⟨_, by decide, rfl⟩

theorem witness_MainLoopResumesAfterButton :
    ∃ s s' t' : State, ∃ r : Refusal, Instr.edgeInc.opClass = .button ∧ Instr.pixel.opClass = .mainLoop ∧
      Instr.wake.opClass = .mainLoop ∧ exec .edgeInc s = .next s' ∧ exec .pixel s' = .next t' ∧ exec .wake s' = .refused r :=
  ⟨{ tiny with now := 3, phase := .render, idx := 7 }, _, _, _, by decide, by decide, by decide, rfl, rfl, rfl⟩

theorem witness_EnabledExactlyAsSequenced :
    Instr.tick.opClass ≠ .mainLoop ∧ start.phase = .blink ∧ start.phase ≠ .render ∧ start.phase ≠ .sleep ∧
    { start with phase := .wait }.phase ≠ .blink ∧
    ({ start with phase := .render, idx := 24 }.phase = .render ∧ { start with phase := .render, idx := 24 }.idx.toNat ≤ 24) ∧
    { start with phase := .sleep }.phase = .sleep ∧
    ({ tiny with phase := .wait }.phase = .wait ∧ tiny.cfg.tSleep ≤ { tiny with phase := .wait }.elapsed tiny.sleepStart) ∧
    ¬ ({ start with phase := .wait }.phase = .wait ∧ start.cfg.tSleep ≤ { start with phase := .wait }.elapsed start.sleepStart) := by
  decide

/-- A state in the middle of a sweep, one word sent, a press of the increment button and a reserved code to come. -/
def midSweep : State :=
  { tiny with phase := .render, idx := 1, now := 3, tx := [colorOff], inputs := [.code 0x66#8, .code 0x04#8] }

theorem witness_EveryStepKeepsStateInv : ∃ t : State, StateInv midSweep ∧ step midSweep = .next t := ⟨_, by decide, rfl⟩
theorem witness_EveryStepKeepsTimesFit : ∃ t : State, TimesFit midSweep ∧ step midSweep = .next t := ⟨_, by decide, rfl⟩
theorem witness_EveryStepStaysGoodInProduction :
    ∃ t : State, DigitLegal midSweep ∧ Good midSweep ∧ midSweep.cfg.strict = false ∧ step midSweep = .next t :=
  ⟨_, by decide, by decide, by decide, rfl⟩
theorem witness_EveryStepKeepsStreamFramed :
    ∃ t : State, IdxLegal midSweep ∧ StreamFramed midSweep ∧ TwoColours midSweep ∧ step midSweep = .next t :=
  ⟨_, by decide, by decide, fun _ h => .inr (List.mem_singleton.mp h), rfl⟩
theorem witness_EveryStepKeepsConfiguration : ∃ t : State, step midSweep = .next t := ⟨_, rfl⟩
theorem witness_EveryStepAppendsAtMostOneWord :
    ∃ t : State, step { midSweep with inputs := [] } = .next t ∧ t.tx ≠ midSweep.tx := ⟨_, rfl, by decide⟩

theorem witness_FaultBitsAreSticky :
    ∃ s t : State, Instr.edgeUnk ≠ .reset ∧ exec .edgeUnk s = .next t ∧ s.fault = 0b10#2 ∧ t.fault ≠ s.fault :=
  ⟨{ State.resetFor { small with strict := true } with fault := 0b10#2 }, _, by decide, rfl, by decide, by decide⟩

-- Both clauses: cell 1 of the pattern of digit 0 is lit, cell 0 is not.
theorem witness_PixelShowsPatternOfDigit :
    StateInv midSweep ∧ midSweep.phase = .render ∧
    (midSweep.en = true ∧ (maskFor midSweep.cfg (Fin.ofNat 10 midSweep.digit.toNat)).getLsbD midSweep.idx.toNat = true) ∧
    (StateInv { midSweep with idx := 0 } ∧ (maskFor midSweep.cfg (Fin.ofNat 10 midSweep.digit.toNat)).getLsbD 0 = false) := by decide

theorem witness_HiddenBufferIsUnobservable :
    ∃ s₁ s₂ t : State, SameButHiddenBuf s₁ s₂ ∧ s₁.buf ≠ s₂.buf ∧ step s₁ = .next t :=
  ⟨{ midSweep with en := false, buf := 0#25 }, { midSweep with en := false, buf := 1#25 }, _,
    ⟨rfl, fun h => absurd h (by decide)⟩, by decide, rfl⟩

/-- The operations of a sweep with a millisecond after its seventh word. -/
def slowSweep : List Instr := List.replicate 7 .pixel ++ [.tick] ++ List.replicate 18 .pixel

theorem witness_UndisturbedSweepSendsFrame :
    ∃ s : State, s.phase = .render ∧ s.idx = 0#5 ∧ (∀ i ∈ slowSweep, i = .pixel ∨ i = .tick) ∧
      slowSweep.count .pixel = 25 ∧ StateInv s :=
  ⟨{ tiny with phase := .render }, by decide, by decide, by decide, by decide, by decide⟩

/-- The operations of V-FRM-4: an increment after the seventh word. -/
def tornSweep : List Instr := List.replicate 7 .pixel ++ [.edgeInc] ++ List.replicate 18 .pixel

theorem witness_TornSweepSendsCellByCell :
    ∃ s u : State, s.phase = .render ∧ s.idx = 0#5 ∧ Instr.reset ∉ tornSweep ∧ mainLoopOps tornSweep = List.replicate 25 .pixel ∧
      runOps (List.replicate 7 .pixel ++ [.edgeInc]) s = .next u ∧
      tornSweep = (List.replicate 7 .pixel ++ [.edgeInc]) ++ .pixel :: List.replicate 17 .pixel :=
  ⟨{ tiny with phase := .render, now := 3 }, _, by decide, by decide, by decide, by decide, rfl, by decide⟩

theorem witness_DisabledDisplaySendsOnlyOff :
    ∃ s t : State, s.en = false ∧ runOps [.pixel] s = .next t ∧
      ∀ (before after : List Instr) (u : State), [Instr.pixel] = before ++ .pixel :: after → runOps before s = .next u → u.en = false :=
  ⟨{ tiny with phase := .render, en := false }, _, rfl, rfl, fun before after u h hu => by
    cases before with
    | nil => cases hu; rfl
    | cons x rest =>
      have := congrArg List.length h
      simp only [List.length_append, List.length_cons, List.length_nil] at this
      omega⟩

/-- The operations of an iteration up to its sleep, with a press and a millisecond between. -/
def busyIteration : List Instr := [.sample 0b011#3, .blink, .edgeInc, .tick] ++ tornSweep

theorem witness_IterationReachesSleepInAnyInterleaving :
    tiny.phase = .blink ∧ Instr.reset ∉ busyIteration ∧ mainLoopOps busyIteration = [.blink] ++ List.replicate 25 .pixel := by decide

theorem witness_FirstIterationShowsDigitZero : 0 < small.tBlink := by decide

/-- The active part of an iteration, in which one millisecond passes. -/
def activePart : List Instr := [.blink, .tick] ++ List.replicate 25 .pixel

-- The bound is 1 and one millisecond passes; the iteration begins in the reset state, with a `WAKE`, and with a `RESET` in a sweep.
theorem witness_ActiveMaxBoundsEveryIteration :
    (small.tActiveMax = some 1 ∧ Instr.sleep ∉ activePart ∧ Instr.wake ∉ activePart ∧ Instr.reset ∉ activePart) ∧
    (∃ t : State, respectsActiveMax small (activePart ++ [.sleep]) = true ∧
      runOps (activePart ++ [.sleep]) (State.resetFor small) = .next t) ∧
    (∃ u t : State, respectsActiveMax small (TraceItem.iter0.expand ++ [.wake] ++ activePart ++ [.sleep]) = true ∧
      runOps (TraceItem.iter0.expand ++ [.wake]) (State.resetFor small) = .next u ∧
      runOps (activePart ++ [.sleep]) u = .next t) ∧
    (∃ u t : State, respectsActiveMax small ([.tick, .blink, .pixel] ++ [.reset] ++ activePart ++ [.sleep]) = true ∧
      runOps ([.tick, .blink, .pixel] ++ [.reset]) (State.resetFor small) = .next u ∧
      runOps (activePart ++ [.sleep]) u = .next t) :=
  ⟨by decide, ⟨_, by decide, rfl⟩, ⟨_, _, by decide, rfl, rfl⟩, ⟨_, _, by decide, rfl, rfl⟩⟩

theorem witness_SequencerFollowsCycle : ∃ t : State, Instr.blink ≠ .reset ∧ exec .blink start = .next t := ⟨_, by decide, rfl⟩

theorem witness_TogglesAreSpaced :
    ∃ s s' u : State, s.phase = .blink ∧ s.cfg.tBlink = s.elapsed s.lastTog ∧ exec .blink s = .next s' ∧ s.now < 2 ^ s.cfg.tw ∧
      s.cfg.tBlink < 2 ^ s.cfg.tw ∧ Instr.reset ∉ [Instr.pixel, .edgeTog, .tick] ∧
      ticksIn [Instr.pixel, .edgeTog, .tick] + 1 = s.cfg.tBlink ∧ runOps [.pixel, .edgeTog, .tick] s' = .next u :=
  ⟨{ tiny with now := 2 }, _, _, by decide, by decide, rfl, by decide, by decide, by decide, by decide, rfl⟩

theorem witness_UndisturbedRunNeverStops : StateInv tiny ∧ Good tiny ∧ tiny.inputs = [] := by decide

theorem witness_UndisturbedSleepLastsExactly :
    ∃ s : State, s.inputs = [] ∧ s.phase = .sleep ∧ s.now < 2 ^ s.cfg.tw ∧ s.cfg.tSleep < 2 ^ s.cfg.tw :=
  ⟨{ start with phase := .sleep, now := 2 ^ 32 - 1 }, by decide⟩

/-- Left to itself with a legal `idx`, the block goes on and `idx` stays legal. -/
theorem own_operation_goes_on (s : State) (h : s.idx.toNat ≤ 24) :
    ∃ t : State, exec s.ownOperation s = .next t ∧ t.idx.toNat ≤ 24 := by
  by_cases he : enabled s.candidate s = true
  · rw [State.ownOperation, if_pos he]
    cases hp : s.phase <;> simp only [State.candidate, hp, enabled, Bool.and_eq_true, decide_eq_true_eq] at he ⊢
    · exact ⟨(if s.blinkDue then s.toggleIndicator else s).setPc .render 0#5, by rw [exec, execBlink, if_pos hp], Nat.zero_le 24⟩
    · rw [exec, execPixel, if_pos hp, bufRead_cell (by omega)]
      refine ⟨_, rfl, ?_⟩
      rcases advanceSweep_cases (s.emit (cellColor s.cfg (s.buf.getLsbD s.idx.toNat) s.en)) with ⟨_, e⟩ | ⟨h24, e⟩ <;> rw [e]
      · exact Nat.zero_le 24
      · have : s.idx.toNat ≠ 24 := fun e => h24 (BitVec.eq_of_toNat_eq (by simpa using e))
        have one : (1#5).toNat = 1 := rfl
        simp only [setPc_idx, emit_idx, BitVec.toNat_add, one]
        omega
    · exact ⟨(s.setSleepStart s.now).setPc .wait 0#5, by rw [exec, execSleep, if_pos hp], Nat.zero_le 24⟩
    · exact ⟨s.setPc .blink 0#5, by rw [exec, execWake, if_pos ⟨hp, he.2⟩], Nat.zero_le 24⟩
  · rw [State.ownOperation, if_neg he]
    exact ⟨_, rfl, h⟩

/-- The states of the block left to itself from `tiny`. -/
def ownStates : Nat → State
  | 0 => tiny
  | n + 1 =>
    match exec (ownStates n).ownOperation (ownStates n) with
    | .next t => t
    | .fault _ => ownStates n
    | .refused _ => ownStates n

theorem ownStates_idx : ∀ n, (ownStates n).idx.toNat ≤ 24
  | 0 => by decide
  | n + 1 => by
    obtain ⟨t, ht, hi⟩ := own_operation_goes_on _ (ownStates_idx n)
    rw [ownStates, ht]
    exact hi

theorem witness_UndisturbedRunIsWeaklyFair :
    IsExecution (fun n => (ownStates n).ownOperation) ownStates ∧
    ∀ n, (fun n => (ownStates n).ownOperation) n = (ownStates n).ownOperation := by
  refine ⟨fun n => ?_, fun _ => rfl⟩
  obtain ⟨t, ht, _⟩ := own_operation_goes_on _ (ownStates_idx n)
  simp only [ownStates, ht]

theorem witness_StepRunsOfferedCode :
    midSweep.inputs = .code 0x66#8 :: [.code 0x04#8] ∧ (Instr.sample 0b110#3).wellFormed = true ∧
    decodeOp 0x66#8 = .operation (.sample 0b110#3) := by decide

-- The ends of every reserved range, and the codes next to them.
theorem witness_StepRefusesReservedCodes :
    { start with inputs := [.code 0x1F#8] }.inputs = .code 0x1F#8 :: [] ∧
    [0x04, 0x1F, 0x24, 0x3F, 0x41, 0x5F, 0x68, 0x7F, 0x80, 0xFE].all (fun w => (decodeTableWord 8 w).isNone) = true ∧
    [0x03, 0x20, 0x23, 0x40, 0x60, 0x67, 0xFF].all (fun w => (decodeTableWord 8 w).isSome) = true := by decide

theorem witness_StepDispatchesPinEvents :
    { start with inputs := [.pin 7] }.inputs = .pin 7 :: [] ∧ start.cfg.buttonPinsDistinct = true ∧ start.cfg.pinInc = 0 ∧
    start.cfg.pinDec = 1 ∧ start.cfg.pinTog = 2 ∧ 7 ≠ start.cfg.pinInc ∧ 7 ≠ start.cfg.pinDec ∧ 7 ≠ start.cfg.pinTog := by decide

theorem witness_StepWithoutStimulusRunsMainLoop :
    start.inputs = [] ∧ { start with phase := .render }.inputs = [] ∧ { start with phase := .sleep }.inputs = [] ∧
    (∃ s : State, s.inputs = [] ∧ s.phase = .wait ∧ s.elapsed s.sleepStart = s.cfg.tSleep) ∧
    (∃ s : State, s.inputs = [] ∧ s.phase = .wait ∧ s.elapsed s.sleepStart + 1 = s.cfg.tSleep) :=
  ⟨by decide, by decide, by decide, ⟨{ start with phase := .wait, now := 100 }, by decide⟩,
    ⟨{ start with phase := .wait, now := 99 }, by decide⟩⟩

theorem witness_DecoderFollowsCodeMap :
    decodeOp 0x63#8 = .operation (.sample 0b011#3) ∧ (⟨"SAMPLE", 0x60#8, 0xF8#8⟩ : CodeRow) ∈ codeMap := by decide

theorem witness_PressIsOneEdge : start.btnPrev = 0b111#3 := by decide

theorem witness_IterIsOneExactIteration :
    start.phase = .blink ∧ start.now < 2 ^ start.cfg.tw ∧ start.cfg.tSleep = 100 ∧ 100 < 2 ^ start.cfg.tw := by decide

end Sys2Proof.Tests
end

section
/-!
PROOFS of 00_scope.md: elapsed time (R7) and the step on an offered code (R6).
-/

namespace Sys2Proof.Machine

/-! ## Elapsed time -/

/-- What the remainder drops is a whole number of turns of the counter. -/
theorem elapsed_eq_sub_add_mul (s : State) (t : Nat) :
    ∃ k : Int, (s.elapsed t : Int) = (s.now : Int) - (t : Int) + k * (2 ^ s.cfg.tw : Int) := by
  have turns := Int.emod_add_mul_ediv ((s.now : Int) - (t : Int)) (2 ^ s.cfg.tw)
  refine ⟨-(((s.now : Int) - (t : Int)) / 2 ^ s.cfg.tw), ?_⟩
  rw [elapsed_cast]
  push_cast
  linarith only [turns]

theorem elapsed_eq_sub {s : State} {t : Nat} (hle : t ≤ s.now) (hlt : s.now - t < 2 ^ s.cfg.tw) : s.elapsed t = s.now - t :=
  elapsed_of_modEq hlt (by rw [Nat.add_sub_cancel' hle])

/-- Settles O4: the bound is the remainder's, the multiple is the dropped turns, and without a wrap nothing is dropped. -/
theorem elapsedIsDifferenceModuloWidth : Obligations.ElapsedIsDifferenceModuloWidth :=
  fun s t => ⟨elapsed_lt s t, elapsed_eq_sub_add_mul s t, elapsed_eq_sub⟩

/-! ## The offered code -/

theorem fetch_of_code {s : State} {op : Op8} {rest : List Stimulus} {i : Instr} (hin : s.inputs = .code op :: rest)
    (hdec : decodeOp op = .operation i) : s.fetch = .ok (i, s.setInputs rest) := by
  simp only [State.fetch, hin, hdec]

theorem step_of_fetch_ok {s ready : State} {i : Instr} (h : s.fetch = .ok (i, ready)) : step s = exec i ready := by
  simp only [step, h]

/-- Settles O50: the offered code is fetched, and what is fetched is run. -/
theorem stepRunsOfferedCode : Obligations.StepRunsOfferedCode := by
  intro s op rest i hin _ hdec
  exact step_of_fetch_ok (fetch_of_code hin hdec)

end Sys2Proof.Machine
end

section
/-!
PROOFS of 10_state.md: the invariants (I1) to (I6) of R24, the widths of the timestamps, the configuration (R25) and the fault
bits (R22).
-/

namespace Sys2Proof.Machine

/-! ## From operations to steps -/

/-- An invariant that does not read the environment's list and that every operation keeps is kept by every step. -/
theorem step_preserves {P : State → Prop} (hinputs : ∀ s rest, P s → P (s.setInputs rest))
    (hexec : ∀ i s t, P s → exec i s = .next t → P t) {s t : State} (hs : P s) (h : step s = .next t) : P t := by
  obtain ⟨i, rest, hrun, -⟩ := step_cases h
  exact hexec i _ t (hinputs s rest hs) hrun

/-- `SAMPLE` is edge operations and the write of the remembered levels: what both keep, it keeps (R60). -/
theorem sampled_preserves {P : State → Prop} (hprev : ∀ u lv, P u → P (u.setBtnPrev lv))
    (hedge : ∀ b u, P u → P (performEdge b u)) (lv : Levels) {s : State} (hs : P s) : P (sampled lv s) := by
  have turn : ∀ b u, P u → P (sampleButton lv b u) := by
    intro b u hu
    rcases sampleButton_cases lv b u with ⟨_, e⟩ | ⟨_, e⟩ <;> rw [e]
    · exact hedge b u hu
    · exact hu
  exact hprev _ _ (turn _ _ (turn _ _ (turn _ _ hs)))

/-- `RESET` leaves the state right after reset, but for the model's own fields (R120). -/
theorem execReset_eq (s : State) :
    execReset s = .next { State.resetFor s.cfg with
      tx := s.tx, txMark := s.tx.length, inputs := s.inputs, freeCount := s.freeCount } := rfl

/-! ## The display: (I1) to (I3) -/

/-- The part of (I1) to (I5) that the interrupt context's registers carry. -/
abbrev DisplayInv (s : State) : Prop := DigitLegal s ∧ BufShowsDigit s ∧ BufDarkOrDigit s

theorem stateInv_iff (s : State) : StateInv s ↔ DisplayInv s ∧ IdxLegal s ∧ StatusFollowsInd s := by
  simp only [StateInv, DisplayInv, and_assoc]

theorem refresh_displayInv {s : State} (h : DigitLegal s) : DisplayInv s.refresh := by
  rw [refresh_legal (Nat.lt_succ_of_le h)]
  exact ⟨h, fun _ => rfl, fun _ => .inr rfl⟩

theorem clear_displayInv {s : State} (h : DigitLegal s) (hen : s.en = false) : DisplayInv s.clear :=
  ⟨h, fun hon => absurd (hen.symm.trans hon) Bool.false_ne_true, fun _ => .inl rfl⟩

theorem digitUp_le_nine (d : Digit) : (digitUp d).toNat ≤ 9 := by
  rw [digitUp_toNat]; omega

theorem digitDown_le_nine (d : Digit) : (digitDown d).toNat ≤ 9 := by
  rw [digitDown_toNat]; omega

/-- Every action ends in a refresh with a legal digit, or clears a display it has disabled. -/
theorem actionOf_displayInv (b : Button) {s : State} (h : DigitLegal s) : DisplayInv (actionOf b s) := by
  cases b with
  | inc => exact refresh_displayInv (digitUp_le_nine s.digit)
  | dec => exact refresh_displayInv (digitDown_le_nine s.digit)
  | tog =>
    cases hen : s.en with
    | true => rw [actionOf, togAction_disables hen]; exact clear_displayInv h rfl
    | false => rw [actionOf, togAction_enables hen]; exact refresh_displayInv h

theorem performEdge_displayInv (b : Button) {s : State} (h : DisplayInv s) : DisplayInv (performEdge b s) := by
  rcases performEdge_cases b s with ⟨_, e⟩ | ⟨_, e⟩ <;> rw [e]
  · exact h
  · exact actionOf_displayInv b h.1

theorem sampled_displayInv (lv : Levels) {s : State} (h : DisplayInv s) : DisplayInv (sampled lv s) :=
  sampled_preserves (fun _ _ hu => hu) (fun b _ hu => performEdge_displayInv b hu) lv h

/-- Only the button class and `RESET` write what (I1) to (I3) read. -/
theorem mainLoop_displayInv {i : Instr} {s t : State} (hi : i.opClass = .mainLoop) (hs : DisplayInv s)
    (h : exec i s = .next t) : DisplayInv t := by
  rcases mainLoop_cases hi h with ⟨_, _, rfl⟩ | ⟨_, _, _, rfl⟩ | ⟨_, _, rfl⟩ | ⟨_, _, _, rfl⟩
  · split <;> exact hs
  · rcases advanceSweep_cases (s.emit (frameWord s.cfg s.en s.buf s.idx.toNat)) with ⟨_, e⟩ | ⟨_, e⟩ <;> rw [e] <;> exact hs
  · exact hs
  · exact hs

/-! ## The sequencer and the indicator: (I4) and (I5) -/

theorem idxLegal_setPc_zero (s : State) (p : Phase) : IdxLegal (s.setPc p 0#5) := ⟨by simp, fun _ => rfl⟩

theorem idxLegal_advanceSweep {s : State} (h : s.idx.toNat < 25) : IdxLegal s.advanceSweep := by
  rcases advanceSweep_cases s with ⟨_, e⟩ | ⟨hne, e⟩ <;> rw [e]
  · exact idxLegal_setPc_zero s .sleep
  · have next : (s.idx + 1#5).toNat ≤ 24 := by bv_omega
    exact ⟨next, fun hp => absurd rfl hp⟩

theorem statusLevel_eq_on_iff (c : Config) (ind : Bool) : statusLevel c ind = c.statusOnLevel ↔ ind = true := by
  cases ind <;> simp [statusLevel]

theorem statusFollowsInd_toggleIndicator (s : State) : StatusFollowsInd s.toggleIndicator :=
  statusLevel_eq_on_iff s.cfg (!s.ind)

theorem statusFollowsInd_advanceSweep {s : State} (h : StatusFollowsInd s) : StatusFollowsInd s.advanceSweep := by
  rcases advanceSweep_cases s with ⟨_, e⟩ | ⟨_, e⟩ <;> rw [e] <;> exact h

theorem mainLoop_sequencerInv {i : Instr} {s t : State} (hi : i.opClass = .mainLoop) (hs : StatusFollowsInd s)
    (h : exec i s = .next t) : IdxLegal t ∧ StatusFollowsInd t := by
  rcases mainLoop_cases hi h with ⟨_, _, rfl⟩ | ⟨_, _, hk, rfl⟩ | ⟨_, _, rfl⟩ | ⟨_, _, _, rfl⟩
  · refine ⟨idxLegal_setPc_zero _ _, ?_⟩
    split
    · exact statusFollowsInd_toggleIndicator s
    · exact hs
  · exact ⟨idxLegal_advanceSweep hk, statusFollowsInd_advanceSweep hs⟩
  · exact ⟨idxLegal_setPc_zero _ _, hs⟩
  · exact ⟨idxLegal_setPc_zero _ _, hs⟩

/-! ## All of (I1) to (I5) -/

theorem resetFor_stateInv (c : Config) : StateInv (State.resetFor c) :=
  ⟨Nat.zero_le 9, fun _ => rfl, fun _ => .inr rfl, ⟨Nat.zero_le 24, fun _ => rfl⟩, statusLevel_eq_on_iff c false⟩

theorem exec_stateInv {i : Instr} {s t : State} (hs : StateInv s) (h : exec i s = .next t) : StateInv t := by
  obtain ⟨hdisplay, hidx, hstatus⟩ := (stateInv_iff s).1 hs
  by_cases hm : i.opClass = .mainLoop
  · exact (stateInv_iff t).2 ⟨mainLoop_displayInv hm hdisplay h, mainLoop_sequencerInv hm hstatus h⟩
  rcases nonMainLoop_cases hm h with ⟨b, _, rfl⟩ | ⟨_, rfl⟩ | ⟨lv, _, rfl⟩ | ⟨_, rfl⟩ | ⟨_, hr⟩
  · exact (stateInv_iff _).2 ⟨performEdge_displayInv b hdisplay, by simpa [IdxLegal] using hidx, by simpa [StatusFollowsInd] using hstatus⟩
  · split <;> exact hs
  · exact (stateInv_iff _).2 ⟨sampled_displayInv lv hdisplay, by simpa [IdxLegal] using hidx, by simpa [StatusFollowsInd] using hstatus⟩
  · exact hs
  · rw [execReset_eq] at hr; cases hr; exact resetFor_stateInv s.cfg

/-- Settles O30: every operation keeps (I1) to (I5), and none of them reads the environment's list. -/
theorem everyStepKeepsStateInv : Obligations.EveryStepKeepsStateInv :=
  fun _ _ => step_preserves (P := StateInv) (fun _ _ h => h) (fun _ _ _ => exec_stateInv)

/-! ## Timestamps -/

theorem timesFit_iff (s : State) :
    TimesFit s ↔ s.now < 2 ^ s.cfg.tw ∧ (∀ b, s.lastAcc b < 2 ^ s.cfg.tw) ∧
      s.lastTog < 2 ^ s.cfg.tw ∧ s.sleepStart < 2 ^ s.cfg.tw := by
  constructor
  · rintro ⟨hnow, hinc, hdec, htog, hlast, hsleep⟩
    refine ⟨hnow, fun b => ?_, hlast, hsleep⟩
    cases b with
    | inc => exact hinc
    | dec => exact hdec
    | tog => exact htog
  · rintro ⟨hnow, hacc, hlast, hsleep⟩
    exact ⟨hnow, hacc .inc, hacc .dec, hacc .tog, hlast, hsleep⟩

/-- The only new timestamp an edge operation writes is `now`. -/
theorem performEdge_timesFit (b : Button) {s : State} (hs : TimesFit s) : TimesFit (performEdge b s) := by
  obtain ⟨hnow, hacc, hlast, hsleep⟩ := (timesFit_iff s).1 hs
  rw [timesFit_iff, performEdge_cfg, performEdge_now, performEdge_lastTog, performEdge_sleepStart]
  refine ⟨hnow, fun other => ?_, hlast, hsleep⟩
  rcases performEdge_lastAcc b other s with e | ⟨_, _, e⟩ <;> rw [e]
  · exact hacc other
  · exact hnow

theorem resetFor_timesFit (c : Config) : TimesFit (State.resetFor c) := by
  simp [TimesFit, State.resetFor]

theorem exec_timesFit {i : Instr} {s t : State} (hs : TimesFit s) (h : exec i s = .next t) : TimesFit t := by
  have ⟨hnow, hinc, hdec, htog, hlast, hsleep⟩ := hs
  by_cases hm : i.opClass = .mainLoop
  · rcases mainLoop_cases hm h with ⟨_, _, rfl⟩ | ⟨_, _, _, rfl⟩ | ⟨_, _, rfl⟩ | ⟨_, _, _, rfl⟩
    · split
      · exact ⟨hnow, hinc, hdec, htog, hnow, hsleep⟩
      · exact hs
    · rcases advanceSweep_cases (s.emit (frameWord s.cfg s.en s.buf s.idx.toNat)) with ⟨_, e⟩ | ⟨_, e⟩ <;> rw [e] <;> exact hs
    · exact ⟨hnow, hinc, hdec, htog, hlast, hnow⟩
    · exact hs
  rcases nonMainLoop_cases hm h with ⟨b, _, rfl⟩ | ⟨_, rfl⟩ | ⟨lv, _, rfl⟩ | ⟨_, rfl⟩ | ⟨_, hr⟩
  · exact performEdge_timesFit b hs
  · split <;> exact hs
  · exact sampled_preserves (fun _ _ hu => hu) (fun b _ hu => performEdge_timesFit b hu) lv hs
  · exact ⟨Nat.mod_lt _ (by positivity), hinc, hdec, htog, hlast, hsleep⟩
  · rw [execReset_eq] at hr; cases hr; exact resetFor_timesFit s.cfg

/-- Settles O31: an operation writes a timestamp with `now` or with 0, and `TICK` reduces `now`. -/
theorem everyStepKeepsTimesFit : Obligations.EveryStepKeepsTimesFit :=
  fun _ _ => step_preserves (P := TimesFit) (fun _ _ h => h) (fun _ _ _ => exec_timesFit)

/-! ## The reset state -/

/-- Settles O3: the two invariants of the reset values, and an empty stream is framed and of two colours. -/
theorem resetStateMeetsInvariants : Obligations.ResetStateMeetsInvariants := by
  rintro c s rfl
  have nothingSent : (State.resetFor c).tx = [] := rfl
  refine ⟨resetFor_stateInv c, resetFor_timesFit c, rfl, ⟨Nat.le_refl 0, rfl⟩, fun w hw => ?_, nothingSent⟩
  rw [nothingSent] at hw
  cases hw

/-! ## The configuration -/

/-- Settles O34: no operation changes the configuration, and neither does the taking of an offer. -/
theorem everyStepKeepsConfiguration : Obligations.EveryStepKeepsConfiguration :=
  fun s _ => step_preserves (P := fun u => u.cfg = s.cfg) (fun _ _ h => h) (fun _ _ _ hu h => (exec_cfg h).trans hu) rfl

/-! ## The fault bits -/

theorem and_or_eq_self {a b : BitVec 2} (h : a &&& b = a) (x : BitVec 2) : a &&& (b ||| x) = a := by
  revert a b x; decide

/-- Every fault bit of `s` is set in `u`. -/
abbrev FaultBitsKept (s u : State) : Prop := s.fault &&& u.fault = s.fault

theorem faultBitsKept_of_eq {s u : State} (h : u.fault = s.fault) : FaultBitsKept s u := by
  rw [FaultBitsKept, h, BitVec.and_self]

theorem refresh_faultBitsKept {s u : State} (h : FaultBitsKept s u) : FaultBitsKept s u.refresh := by
  rcases Nat.lt_or_ge u.digit.toNat 10 with hd | hd
  · rw [refresh_legal hd]; exact h
  · rw [refresh_illegal hd]; exact and_or_eq_self h _

theorem actionOf_faultBitsKept (b : Button) {s u : State} (h : FaultBitsKept s u) : FaultBitsKept s (actionOf b u) := by
  cases b with
  | inc => exact refresh_faultBitsKept h
  | dec => exact refresh_faultBitsKept h
  | tog =>
    cases hen : u.en with
    | true => rw [actionOf, togAction_disables hen]; exact h
    | false => rw [actionOf, togAction_enables hen]; exact refresh_faultBitsKept h

theorem performEdge_faultBitsKept (b : Button) {s u : State} (h : FaultBitsKept s u) : FaultBitsKept s (performEdge b u) := by
  rcases performEdge_cases b u with ⟨_, e⟩ | ⟨_, e⟩ <;> rw [e]
  · exact h
  · exact actionOf_faultBitsKept b h

theorem sampled_faultBitsKept (lv : Levels) (s : State) : FaultBitsKept s (sampled lv s) :=
  sampled_preserves (P := FaultBitsKept s) (fun _ _ hu => hu) (fun b _ hu => performEdge_faultBitsKept b hu) lv
    (faultBitsKept_of_eq rfl)

/-- From a legal digit the three turns of `SAMPLE` record nothing: each keeps the digit legal for the next. -/
theorem sampled_fault_legal (lv : Levels) {s : State} (h : DigitLegal s) : (sampled lv s).fault = s.fault := by
  have kept := sampled_preserves (P := fun u => DigitLegal u ∧ u.fault = s.fault) (fun _ _ hu => hu)
    (fun b u hu => by
      obtain ⟨hlegal, hfault⟩ := hu
      obtain ⟨hf, _, hd⟩ := performEdge_legal (b := b) hlegal
      exact ⟨hd, hf.trans hfault⟩) lv ⟨h, rfl⟩
  exact kept.2

@[simp] theorem toggleIndicator_fault (s : State) : s.toggleIndicator.fault = s.fault := rfl
@[simp] theorem advanceSweep_fault (s : State) : s.advanceSweep.fault = s.fault := by
  rcases advanceSweep_cases s with ⟨_, e⟩ | ⟨_, e⟩ <;> rw [e] <;> rfl

theorem mainLoop_fault {i : Instr} {s t : State} (hi : i.opClass = .mainLoop) (h : exec i s = .next t) :
    t.fault = s.fault := by
  rcases mainLoop_cases hi h with ⟨_, _, rfl⟩ | ⟨_, _, _, rfl⟩ | ⟨_, _, rfl⟩ | ⟨_, _, _, rfl⟩
  · split <;> simp
  · simp
  · rfl
  · rfl

theorem exec_faultBitsKept {i : Instr} {s t : State} (hi : i ≠ .reset) (h : exec i s = .next t) : FaultBitsKept s t := by
  by_cases hm : i.opClass = .mainLoop
  · exact faultBitsKept_of_eq (mainLoop_fault hm h)
  rcases nonMainLoop_cases hm h with ⟨b, _, rfl⟩ | ⟨_, rfl⟩ | ⟨lv, _, rfl⟩ | ⟨_, rfl⟩ | ⟨hreset, _⟩
  · exact performEdge_faultBitsKept b (faultBitsKept_of_eq rfl)
  · split
    · exact and_or_eq_self (faultBitsKept_of_eq rfl) _
    · exact faultBitsKept_of_eq rfl
  · exact sampled_faultBitsKept lv s
  · exact faultBitsKept_of_eq rfl
  · exact absurd hreset hi

/-- From a legal digit only `EDGE_UNK` in a test build records a violation. -/
theorem exec_fault_legal {i : Instr} {s t : State} (hi : i ≠ .reset) (hd : DigitLegal s) (h : exec i s = .next t) :
    t.fault = s.fault ∨ (i = .edgeUnk ∧ s.cfg.strict = true) := by
  by_cases hm : i.opClass = .mainLoop
  · exact .inl (mainLoop_fault hm h)
  rcases nonMainLoop_cases hm h with ⟨b, _, rfl⟩ | ⟨hunk, rfl⟩ | ⟨lv, _, rfl⟩ | ⟨_, rfl⟩ | ⟨hreset, _⟩
  · exact .inl (performEdge_legal hd).1
  · split
    · exact .inr ⟨hunk, ‹_›⟩
    · exact .inl rfl
  · exact .inl (sampled_fault_legal lv hd)
  · exact .inl rfl
  · exact absurd hreset hi

/-- Settles O36: the bits are kept whatever the digit, and with a legal digit only `EDGE_UNK` adds one. -/
theorem faultBitsAreSticky : Obligations.FaultBitsAreSticky := by
  intro i s t hi h
  refine ⟨exec_faultBitsKept hi h, fun hchanged => ?_⟩
  rcases Nat.lt_or_ge 9 s.digit.toNat with hillegal | hlegal
  · exact .inr hillegal
  · exact .inl ((exec_fault_legal hi hlegal h).resolve_left hchanged)

/-! ## What a `PIXEL` sends: (I6) -/

theorem exec_pixel_of_cell {s : State} (hp : s.phase = .render) (hk : s.idx.toNat < 25) :
    exec .pixel s = .next (s.emit (frameWord s.cfg s.en s.buf s.idx.toNat)).advanceSweep := by
  rw [← cellColor_eq, exec, execPixel, if_pos hp, bufRead_cell hk]

theorem exec_pixel_of_missing {s : State} (hp : s.phase = .render) (hk : 25 ≤ s.idx.toNat) :
    exec .pixel s = .fault (.noSuchCell s.idx) := by
  rw [exec, execPixel, if_pos hp, bufRead_missing hk]

theorem exec_pixel_of_not_render {s : State} (hp : s.phase ≠ .render) : exec .pixel s = .refused (.notEnabled .pixel) := by
  rw [exec, execPixel, if_neg hp]

@[simp] theorem advanceSweep_tx (s : State) : s.advanceSweep.tx = s.tx := by
  rcases advanceSweep_cases s with ⟨_, e⟩ | ⟨_, e⟩ <;> rw [e] <;> rfl

theorem frameWord_lit {c : Config} {en : Bool} {buf : Mask25} {k : Nat} (hen : en = true) (hcell : buf.getLsbD k = true) :
    frameWord c en buf k = c.colorActive := by
  simp [frameWord, hen, hcell]

theorem frameWord_dark {c : Config} {en : Bool} {buf : Mask25} {k : Nat} (h : ¬ (en = true ∧ buf.getLsbD k = true)) :
    frameWord c en buf k = colorOff := by
  simpa [frameWord] using fun hen hcell => absurd ⟨hen, hcell⟩ h

/-- Settles O37: `PIXEL` sends the word of the buffer's cell, and an enabled display's buffer is the digit's pattern (I2). -/
theorem pixelShowsPatternOfDigit : Obligations.PixelShowsPatternOfDigit := by
  rintro s ⟨_, hshows, _, ⟨hidx, _⟩, _⟩ hp
  refine ⟨_, frameWord s.cfg s.en s.buf s.idx.toNat, exec_pixel_of_cell hp (Nat.lt_succ_of_le hidx), by simp, ?_, ?_⟩
  · rintro ⟨hen, hcell⟩
    exact frameWord_lit hen (hshows hen ▸ hcell)
  · intro hnot
    exact frameWord_dark fun ⟨hen, hcell⟩ => hnot ⟨hen, hshows hen ▸ hcell⟩

/-! ## The hidden buffer: (I6) for whole executions -/

/-- Two states so related are equal, or differ by a write of the buffer under a disabled display. -/
theorem sameButHiddenBuf_iff (s u : State) : SameButHiddenBuf s u ↔ u = s ∨ (s.en = false ∧ ∃ m, u = s.bufWrite m) := by
  constructor
  · rintro ⟨hu, hen⟩
    cases h : s.en with
    | true => rw [hen h] at hu; exact .inl hu
    | false => exact .inr ⟨rfl, u.buf, hu⟩
  · rintro (rfl | ⟨hen, m, rfl⟩)
    · exact ⟨rfl, fun _ => rfl⟩
    · exact ⟨rfl, fun h => absurd (hen.symm.trans h) Bool.false_ne_true⟩

theorem sameButHiddenBuf_refl (s : State) : SameButHiddenBuf s s := ⟨rfl, fun _ => rfl⟩

theorem sameButHiddenBuf_bufWrite {s : State} (hen : s.en = false) (m : Mask25) : SameButHiddenBuf s (s.bufWrite m) :=
  (sameButHiddenBuf_iff _ _).2 (.inr ⟨hen, m, rfl⟩)

/-- Both stop for the same reason, or both go on, to states that differ at most in a hidden buffer. -/
def MatchingOutcomes : Host.Outcome State Fault Refusal → Host.Outcome State Fault Refusal → Prop
  | .next t₁, .next t₂ => SameButHiddenBuf t₁ t₂
  | .fault r₁, .fault r₂ => r₁ = r₂
  | .refused r₁, .refused r₂ => r₁ = r₂
  | _, _ => False

theorem matchingOutcomes_refl (o : Host.Outcome State Fault Refusal) : MatchingOutcomes o o := by
  cases o with
  | next t => exact sameButHiddenBuf_refl t
  | fault r => exact rfl
  | refused r => exact rfl

theorem matchingOutcomes_next {t₁ : State} {o : Host.Outcome State Fault Refusal} (h : MatchingOutcomes (.next t₁) o) :
    ∃ t₂, o = .next t₂ ∧ SameButHiddenBuf t₁ t₂ := by
  cases o with
  | next t₂ => exact ⟨t₂, rfl, h⟩
  | fault r => exact h.elim
  | refused r => exact h.elim

theorem matchingOutcomes_fault {r : Fault} {o : Host.Outcome State Fault Refusal} (h : MatchingOutcomes (.fault r) o) :
    o = .fault r := by
  cases o with
  | next t => exact h.elim
  | fault r₂ => exact congrArg _ (Eq.symm h)
  | refused r₂ => exact h.elim

theorem matchingOutcomes_refused {r : Refusal} {o : Host.Outcome State Fault Refusal} (h : MatchingOutcomes (.refused r) o) :
    o = .refused r := by
  cases o with
  | next t => exact h.elim
  | fault r₂ => exact h.elim
  | refused r₂ => exact congrArg _ (Eq.symm h)

/-! ### The button class -/

/-- A refresh writes all 25 cells, so that it does not matter what they were. -/
theorem refresh_bufWrite (s : State) (m : Mask25) : (s.bufWrite m).refresh = s.refresh := by
  rcases Nat.lt_or_ge s.digit.toNat 10 with hd | hd
  · rw [refresh_legal hd, refresh_legal (s := s.bufWrite m) hd]; rfl
  · rw [refresh_illegal hd, refresh_illegal (s := s.bufWrite m) hd]; rfl

/-- While the display is disabled every action refreshes, and so writes the buffer anew. -/
theorem actionOf_bufWrite (b : Button) {s : State} (hen : s.en = false) (m : Mask25) :
    actionOf b (s.bufWrite m) = actionOf b s := by
  cases b with
  | inc => exact refresh_bufWrite (s.setDigit (digitUp s.digit)) m
  | dec => exact refresh_bufWrite (s.setDigit (digitDown s.digit)) m
  | tog =>
    rw [actionOf, togAction_enables hen, togAction_enables (s := s.bufWrite m) hen]
    exact refresh_bufWrite (s.setEn true) m

theorem performEdge_sameButHiddenBuf (b : Button) {s u : State} (h : SameButHiddenBuf s u) :
    SameButHiddenBuf (performEdge b s) (performEdge b u) := by
  rcases (sameButHiddenBuf_iff s u).1 h with rfl | ⟨hen, m, rfl⟩
  · exact sameButHiddenBuf_refl _
  have hrecord : (s.bufWrite m).elapsed ((s.bufWrite m).lastAcc b) = s.elapsed (s.lastAcc b) := by cases b <;> rfl
  rcases Nat.lt_or_ge s.cfg.tDebounce (s.elapsed (s.lastAcc b)) with haccepted | hdiscarded
  · rw [performEdge_accepts haccepted, performEdge_accepts (s := s.bufWrite m) (by rw [hrecord]; exact haccepted)]
    have hsame := actionOf_bufWrite b (s := s.setLastAcc b s.now) hen m
    exact hsame ▸ sameButHiddenBuf_refl _
  · rw [performEdge_discards hdiscarded, performEdge_discards (s := s.bufWrite m) (by rw [hrecord]; exact hdiscarded)]
    exact h

theorem sameButHiddenBuf_btnPrev {s u : State} (h : SameButHiddenBuf s u) : u.btnPrev = s.btnPrev := by
  rw [h.1]

theorem sampleButton_sameButHiddenBuf (lv : Levels) (b : Button) {s u : State} (h : SameButHiddenBuf s u) :
    SameButHiddenBuf (sampleButton lv b s) (sampleButton lv b u) := by
  rw [sampleButton, sampleButton, sameButHiddenBuf_btnPrev h]
  split
  · exact performEdge_sameButHiddenBuf b h
  · exact h

theorem setBtnPrev_sameButHiddenBuf (lv : Levels) {s u : State} (h : SameButHiddenBuf s u) :
    SameButHiddenBuf (s.setBtnPrev lv) (u.setBtnPrev lv) := by
  rcases (sameButHiddenBuf_iff s u).1 h with rfl | ⟨hen, m, rfl⟩
  · exact sameButHiddenBuf_refl _
  · exact sameButHiddenBuf_bufWrite (s := s.setBtnPrev lv) hen m

theorem sampled_sameButHiddenBuf (lv : Levels) {s u : State} (h : SameButHiddenBuf s u) :
    SameButHiddenBuf (sampled lv s) (sampled lv u) :=
  setBtnPrev_sameButHiddenBuf lv
    (sampleButton_sameButHiddenBuf lv .tog (sampleButton_sameButHiddenBuf lv .dec (sampleButton_sameButHiddenBuf lv .inc h)))

/-! ### The operations and a whole step -/

theorem frameWord_disabled (c : Config) (buf : Mask25) (k : Nat) : frameWord c false buf k = colorOff :=
  frameWord_dark fun h => absurd h.1 Bool.false_ne_true

theorem advanceSweep_bufWrite (s : State) (m : Mask25) : (s.bufWrite m).advanceSweep = s.advanceSweep.bufWrite m := by
  rw [State.advanceSweep, State.advanceSweep, bufWrite_idx]
  split <;> rfl

@[simp] theorem advanceSweep_en (s : State) : s.advanceSweep.en = s.en := by
  rcases advanceSweep_cases s with ⟨_, e⟩ | ⟨_, e⟩ <;> rw [e] <;> rfl

/-- With the display disabled every cell is sent dark, whatever the buffer holds. -/
theorem exec_pixel_matching {s : State} (hen : s.en = false) (m : Mask25) :
    MatchingOutcomes (exec .pixel s) (exec .pixel (s.bufWrite m)) := by
  by_cases hp : s.phase = .render
  · rcases Nat.lt_or_ge s.idx.toNat 25 with hk | hk
    · rw [exec_pixel_of_cell hp hk, exec_pixel_of_cell (s := s.bufWrite m) hp hk, bufWrite_en, hen, frameWord_disabled,
        frameWord_disabled]
      have hswept : (s.emit colorOff).advanceSweep.en = false := by simpa using hen
      have hsame := advanceSweep_bufWrite (s.emit colorOff) m
      exact (sameButHiddenBuf_iff _ _).2 (.inr ⟨hswept, m, hsame⟩)
    · rw [exec_pixel_of_missing hp hk, exec_pixel_of_missing (s := s.bufWrite m) hp hk]
      exact rfl
  · rw [exec_pixel_of_not_render hp, exec_pixel_of_not_render (s := s.bufWrite m) hp]
    exact rfl

/-- Operations behind the same guard match where they match behind it. -/
theorem matchingOutcomes_guarded {p : Prop} [Decidable p] {o₁ o₂ : Host.Outcome State Fault Refusal} {r : Refusal}
    (h : MatchingOutcomes o₁ o₂) : MatchingOutcomes (if p then o₁ else .refused r) (if p then o₂ else .refused r) := by
  split
  · exact h
  · exact rfl

theorem execBlink_matching {s : State} (hen : s.en = false) (m : Mask25) :
    MatchingOutcomes (execBlink s) (execBlink (s.bufWrite m)) := by
  refine matchingOutcomes_guarded (p := s.phase = .blink) ?_
  have hsame : (s.bufWrite m).blinkDue = s.blinkDue := rfl
  rw [hsame]
  cases s.blinkDue with
  | true => exact sameButHiddenBuf_bufWrite (s := s.toggleIndicator.setPc .render 0#5) hen m
  | false => exact sameButHiddenBuf_bufWrite (s := s.setPc .render 0#5) hen m

theorem execSleep_matching {s : State} (hen : s.en = false) (m : Mask25) :
    MatchingOutcomes (execSleep s) (execSleep (s.bufWrite m)) :=
  matchingOutcomes_guarded (p := s.phase = .sleep)
    (sameButHiddenBuf_bufWrite (s := (s.setSleepStart s.now).setPc .wait 0#5) hen m)

theorem execWake_matching {s : State} (hen : s.en = false) (m : Mask25) :
    MatchingOutcomes (execWake s) (execWake (s.bufWrite m)) :=
  matchingOutcomes_guarded (p := s.phase = .wait ∧ s.sleepOver = true)
    (sameButHiddenBuf_bufWrite (s := s.setPc .blink 0#5) hen m)

theorem execEdgeUnk_matching {s : State} (hen : s.en = false) (m : Mask25) :
    MatchingOutcomes (execEdgeUnk s) (execEdgeUnk (s.bufWrite m)) := by
  rw [execEdgeUnk, execEdgeUnk, bufWrite_cfg]
  split
  · exact sameButHiddenBuf_bufWrite (s := s.raise .unknownPin) hen m
  · exact sameButHiddenBuf_bufWrite hen m

/-- While the display is disabled, no operation lets the buffer be seen. -/
theorem exec_matching (i : Instr) {s : State} (hen : s.en = false) (m : Mask25) :
    MatchingOutcomes (exec i s) (exec i (s.bufWrite m)) := by
  have hidden := sameButHiddenBuf_bufWrite hen m
  cases i with
  | edgeInc => exact performEdge_sameButHiddenBuf .inc hidden
  | edgeDec => exact performEdge_sameButHiddenBuf .dec hidden
  | edgeTog => exact performEdge_sameButHiddenBuf .tog hidden
  | edgeUnk => exact execEdgeUnk_matching hen m
  | sample lv => exact sampled_sameButHiddenBuf lv hidden
  | blink => exact execBlink_matching hen m
  | pixel => exact exec_pixel_matching hen m
  | sleep => exact execSleep_matching hen m
  | wake => exact execWake_matching hen m
  | tick => exact sameButHiddenBuf_bufWrite (s := s.setNow ((s.now + 1) % 2 ^ s.cfg.tw)) hen m
  | reset => exact matchingOutcomes_refl (execReset s)

theorem enabled_bufWrite (i : Instr) (s : State) (m : Mask25) : enabled i (s.bufWrite m) = enabled i s := by
  cases i <;> rfl

theorem ownOperation_bufWrite (s : State) (m : Mask25) : (s.bufWrite m).ownOperation = s.ownOperation := by
  have hcandidate : (s.bufWrite m).candidate = s.candidate := rfl
  rw [State.ownOperation, State.ownOperation, hcandidate, enabled_bufWrite]

/-- Which operation is next does not depend on the buffer. -/
theorem fetch_bufWrite (s : State) (m : Mask25) :
    (s.bufWrite m).fetch = s.fetch.map fun (i, ready) => (i, ready.bufWrite m) := by
  rw [State.fetch, State.fetch, bufWrite_inputs, ownOperation_bufWrite]
  rcases s.inputs with _ | ⟨op | p, rest⟩
  · rfl
  · dsimp only
    cases decodeOp op <;> rfl
  · rfl

theorem fetch_en {s ready : State} {i : Instr} (h : s.fetch = .ok (i, ready)) : ready.en = s.en := by
  unfold State.fetch at h
  split at h
  · cases h; rfl
  · cases h; rfl
  · split at h
    · cases h; rfl
    · cases h

theorem step_matching {s u : State} (h : SameButHiddenBuf s u) : MatchingOutcomes (step s) (step u) := by
  rcases (sameButHiddenBuf_iff s u).1 h with rfl | ⟨hen, m, rfl⟩
  · exact matchingOutcomes_refl _
  rw [step, step, fetch_bufWrite]
  cases hf : s.fetch with
  | error r => exact rfl
  | ok next =>
    obtain ⟨i, ready⟩ := next
    exact exec_matching i ((fetch_en hf).trans hen) m

theorem outputs_of_sameButHiddenBuf {s u : State} (h : SameButHiddenBuf s u) : s.outputs = u.outputs := by
  rw [h.1]; rfl

/-- Settles O38: the buffer is no output, and matching outcomes are the three clauses. -/
theorem hiddenBufferIsUnobservable : Obligations.HiddenBufferIsUnobservable := by
  intro s₁ s₂ h
  have hstep := step_matching h
  exact ⟨outputs_of_sameButHiddenBuf h, fun _ h₁ => matchingOutcomes_next (h₁ ▸ hstep),
    fun _ h₁ => matchingOutcomes_refused (h₁ ▸ hstep), fun _ h₁ => matchingOutcomes_fault (h₁ ▸ hstep)⟩

end Sys2Proof.Machine
end

section
/-!
PROOFS of 20_memory.md: what the renderer does at a cell that does not exist (R30).
-/

namespace Sys2Proof.Machine

/-- Settles O10: above 24 `idx` names no cell of the buffer, so the read that `PIXEL` begins with has nothing to answer. -/
theorem pixelFaultsOnMissingCell : Obligations.PixelFaultsOnMissingCell :=
  fun _ hrender habove => exec_pixel_of_missing hrender (Nat.succ_le_of_lt habove)

end Sys2Proof.Machine
end

section
/-!
PROOFS of 30_encoding.md: the code map (R47, R48), the codes of a trace (R46, R56) and the reserved ranges (R51).
-/

namespace Sys2Proof

/-! ## One code -/

open Laws.CodeReadsBack in
/-- The code of every operation reads back as that operation. -/
theorem decodeOp_encodeOp : ∀ i : Instr, Statement i
  | .edgeInc => edgeInc
  | .edgeDec => edgeDec
  | .edgeTog => edgeTog
  | .edgeUnk => edgeUnk
  | .blink => blink
  | .pixel => pixel
  | .sleep => sleep
  | .wake => wake
  | .tick => tick
  | .sample lv => sample lv
  | .reset => reset

theorem decodeOp_eq_operation_iff {op : Op8} {i : Instr} : decodeOp op = .operation i ↔ encodeOp i = op :=
  ⟨encodeOp_of_decodeOp, fun h => h ▸ decodeOp_encodeOp i⟩

/-- Settles O56: the six codes are read. -/
theorem writtenOutCodesDecode : Obligations.WrittenOutCodesDecode := ⟨rfl, rfl, rfl, rfl, rfl, rfl⟩

/-! ## The codes of a trace -/

theorem encodeTrace_cons (i : Instr) (ops : List Instr) : encodeTrace (i :: ops) = encodeOp i :: encodeTrace ops := rfl

/-- A string reads as a trace where its first byte reads as the first operation and the rest as the rest. -/
theorem decodeTrace_cons_eq_some_cons {op : Op8} {rest : List Op8} {i : Instr} {ops : List Instr} :
    decodeTrace (op :: rest) = some (i :: ops) ↔ decodeOp op = .operation i ∧ decodeTrace rest = some ops := by
  rw [decodeTrace]
  cases decodeOp op with
  | operation j => simp [and_left_comm]
  | reserved r => simp

theorem decodeTrace_cons_ne_nil (op : Op8) (rest : List Op8) : decodeTrace (op :: rest) ≠ some [] := by
  rw [decodeTrace]
  cases decodeOp op with
  | operation j => simp
  | reserved r => simp

/-- Settles O54: by induction on the string, each of whose bytes is one operation and its code. -/
theorem traceCodesReadBack : Obligations.TraceCodesReadBack := by
  intro ops bytes
  induction bytes generalizing ops with
  | nil =>
    cases ops with
    | nil => exact iff_of_true rfl rfl
    | cons i ops => exact iff_of_false (by simp [decodeTrace]) (by simp [encodeTrace_cons])
  | cons op rest ih =>
    cases ops with
    | nil => exact iff_of_false (decodeTrace_cons_ne_nil op rest) (by simp [encodeTrace])
    | cons i ops =>
      calc decodeTrace (op :: rest) = some (i :: ops)
        _ ↔ decodeOp op = .operation i ∧ decodeTrace rest = some ops := decodeTrace_cons_eq_some_cons
        _ ↔ encodeOp i = op ∧ encodeTrace ops = rest := and_congr decodeOp_eq_operation_iff (ih ops)
        _ ↔ encodeTrace (i :: ops) = op :: rest := by rw [encodeTrace_cons, List.cons.injEq]

/-! ## The match and mask columns -/

/-- A row covers the code of an operation exactly when it is the row of that operation's mnemonic. -/
theorem covers_encodeOp_iff (i : Instr) :
    ∀ row ∈ codeMap, row.covers (encodeOp i) = true ↔ i.mnemonic = row.mnemonic := by
  cases i with
  | sample lv => revert lv; decide
  | _ => decide

theorem eq_value_of_covers {m : String} {v op : Op8} (h : (CodeRow.mk m v 0xFF#8).covers op = true) : v = op := by
  have kept : op &&& 0xFF#8 = op := BitVec.and_allOnes
  exact (eq_of_beq h).symm.trans kept

theorem encodeOp_sample : ∀ lv : Levels, encodeOp (.sample lv) = 0b01100#5 ++ lv := by decide

/-- A code covered by the row of `SAMPLE` is `01100` followed by the operand. -/
theorem encodeOp_sample_lvField {op : Op8} (h : op &&& 0xF8#8 = 0x60#8) : encodeOp (.sample (lvField op)) = op := by
  have high : op.extractLsb' 3 5 = 0b01100#5 := by
    have kept : (op &&& 0xF8#8).extractLsb' 3 5 = op.extractLsb' 3 5 := by
      rw [BitVec.extractLsb'_and]; exact BitVec.and_allOnes
    rw [← kept, h]; rfl
  have halves : op.extractLsb' 3 5 ++ lvField op = op := by
    rw [lvField, BitVec.extractLsb'_append_extractLsb'_eq_extractLsb'] <;> simp
  rw [encodeOp_sample, ← high, halves]

/-- What a row covers is the code of an operation: no row reaches into a reserved range. -/
theorem exists_encodeOp_of_covers {op : Op8} :
    ∀ row ∈ codeMap, row.covers op = true → ∃ i, encodeOp i = op := by
  simp only [codeMap, List.forall_mem_cons, List.not_mem_nil, false_imp_iff, implies_true, and_true]
  exact ⟨fun h => ⟨.edgeInc, eq_value_of_covers h⟩, fun h => ⟨.edgeDec, eq_value_of_covers h⟩,
    fun h => ⟨.edgeTog, eq_value_of_covers h⟩, fun h => ⟨.edgeUnk, eq_value_of_covers h⟩,
    fun h => ⟨.blink, eq_value_of_covers h⟩, fun h => ⟨.pixel, eq_value_of_covers h⟩,
    fun h => ⟨.sleep, eq_value_of_covers h⟩, fun h => ⟨.wake, eq_value_of_covers h⟩,
    fun h => ⟨.tick, eq_value_of_covers h⟩,
    fun h => ⟨.sample (lvField op), encodeOp_sample_lvField (eq_of_beq h)⟩,
    fun h => ⟨.reset, eq_value_of_covers h⟩⟩

theorem covers_iff {op : Op8} {row : CodeRow} (hrow : row ∈ codeMap) :
    row.covers op = true ↔ ∃ i, decodeOp op = .operation i ∧ i.mnemonic = row.mnemonic := by
  constructor
  · intro hcov
    obtain ⟨i, rfl⟩ := exists_encodeOp_of_covers row hrow hcov
    exact ⟨i, decodeOp_encodeOp i, (covers_encodeOp_iff i row hrow).mp hcov⟩
  · rintro ⟨i, hdec, hname⟩
    rw [← encodeOp_of_decodeOp hdec]
    exact (covers_encodeOp_iff i row hrow).mpr hname

/-- The rows have different mnemonics, and a covered code has one. -/
theorem codeMap_disjoint :
    codeMap.Pairwise (fun r₁ r₂ => ∀ op : Op8, ¬ (r₁.covers op = true ∧ r₂.covers op = true)) := by
  have names : codeMap.Pairwise (fun r₁ r₂ => r₁.mnemonic ≠ r₂.mnemonic) := by decide
  refine names.imp_of_mem ?_
  rintro r₁ r₂ h₁ h₂ hne op ⟨hc₁, hc₂⟩
  obtain ⟨i, rfl⟩ := exists_encodeOp_of_covers r₁ h₁ hc₁
  exact hne (((covers_encodeOp_iff i r₁ h₁).mp hc₁).symm.trans ((covers_encodeOp_iff i r₂ h₂).mp hc₂))

/-- The operand of `SAMPLE` stands in the low three bits of its code (R48). -/
theorem encodeOp_sample_getLsbD : ∀ (lv : Levels) (b : Fin 3), lv.getLsbD b = (encodeOp (.sample lv)).getLsbD b := by decide

/-- Settles O55: the rows are told apart by their mnemonics, and a code is the code of what it reads as. -/
theorem decoderFollowsCodeMap : Obligations.DecoderFollowsCodeMap :=
  ⟨fun _ _ hrow => covers_iff hrow, codeMap_disjoint,
    fun _ lv hdec b => encodeOp_of_decodeOp hdec ▸ encodeOp_sample_getLsbD lv b⟩

/-! ## The reserved ranges -/

theorem clsField_toNat (op : Op8) : (clsField op).toNat = op.toNat / 32 := by
  have := op.isLt
  simp only [clsField, BitVec.extractLsb'_toNat, Nat.shiftRight_eq_div_pow]
  omega

theorem argField_toNat (op : Op8) : (argField op).toNat = op.toNat % 32 := by
  simp [argField]

theorem decodeButtonEvent_reserved_iff {op : Op8} : (∃ r, decodeButtonEvent op = .reserved r) ↔ 4 ≤ op.toNat % 32 := by
  rw [decodeButtonEvent, argField_toNat]
  match op.toNat % 32 with
  | 0 | 1 | 2 | 3 | _ + 4 => simp

theorem decodeMainLoop_reserved_iff {op : Op8} : (∃ r, decodeMainLoop op = .reserved r) ↔ 4 ≤ op.toNat % 32 := by
  rw [decodeMainLoop, argField_toNat]
  match op.toNat % 32 with
  | 0 | 1 | 2 | 3 | _ + 4 => simp

theorem decodeTime_reserved_iff {op : Op8} : (∃ r, decodeTime op = .reserved r) ↔ 1 ≤ op.toNat % 32 := by
  rw [decodeTime, argField_toNat]
  match op.toNat % 32 with
  | 0 | _ + 1 => simp

theorem decodePinSample_reserved_iff {op : Op8} : (∃ r, decodePinSample op = .reserved r) ↔ 8 ≤ op.toNat % 32 := by
  have bits : op.extractLsb' 3 2 = 0#2 ↔ op.toNat % 32 < 8 := by
    rw [← BitVec.toNat_inj]
    simp only [BitVec.extractLsb'_toNat, Nat.shiftRight_eq_div_pow, BitVec.toNat_ofNat]
    omega
  by_cases h : op.toNat % 32 < 8
  · simp [decodePinSample, bits.mpr h, h]
  · simp [decodePinSample, bits, h, Nat.not_lt.mp h]

theorem decodeReset_reserved_iff {op : Op8} : (∃ r, decodeReset op = .reserved r) ↔ op.toNat % 32 ≠ 31 := by
  have arg : argField op = 31#5 ↔ op.toNat % 32 = 31 := by
    rw [← BitVec.toNat_inj, argField_toNat, BitVec.toNat_ofNat]
  by_cases h : op.toNat % 32 = 31
  · simp [decodeReset, arg, h]
  · simp [decodeReset, arg, h]

/-- The ranges of R51, class by class. -/
theorem decodeOp_reserved_iff (op : Op8) :
    (∃ r, decodeOp op = .reserved r) ↔
      (0x04 ≤ op.toNat ∧ op.toNat ≤ 0x1F) ∨ (0x24 ≤ op.toNat ∧ op.toNat ≤ 0x3F) ∨
      (0x41 ≤ op.toNat ∧ op.toNat ≤ 0x5F) ∨ (0x68 ≤ op.toNat ∧ op.toNat ≤ 0x7F) ∨
      (0x80 ≤ op.toNat ∧ op.toNat ≤ 0xFE) := by
  have hbyte := op.isLt
  have hcls : op.toNat / 32 < 8 := by omega
  rw [decodeOp, clsField_toNat]
  generalize hc : op.toNat / 32 = cls at hcls ⊢
  interval_cases cls
  · exact decodeButtonEvent_reserved_iff.trans (by omega)
  · exact decodeMainLoop_reserved_iff.trans (by omega)
  · exact decodeTime_reserved_iff.trans (by omega)
  · exact decodePinSample_reserved_iff.trans (by omega)
  · exact iff_of_true ⟨_, rfl⟩ (by omega)
  · exact iff_of_true ⟨_, rfl⟩ (by omega)
  · exact iff_of_true ⟨_, rfl⟩ (by omega)
  · exact decodeReset_reserved_iff.trans (by omega)

end Sys2Proof
end

section
/-!
PROOFS of 30_encoding.md: which operations have a step (R52), what a step does with what is offered (R50, R51), and the
pseudo-operations (R56).
-/

namespace Sys2Proof.Machine

/-! ## Enabled and not enabled -/

/-- The state after `BLINK`'s poll of the indicator, before the sequencer moves on (42_status_blinker.md R85). -/
def State.polled (s : State) : State := if s.blinkDue = true then s.toggleIndicator else s

theorem exec_blink_of_phase {s : State} (hp : s.phase = .blink) : exec .blink s = .next (s.polled.setPc .render 0#5) := by
  rw [exec, execBlink, if_pos hp]; rfl

theorem exec_blink_of_not_phase {s : State} (hp : s.phase ≠ .blink) : exec .blink s = .refused (.notEnabled .blink) := by
  rw [exec, execBlink, if_neg hp]

theorem exec_sleep_of_phase {s : State} (hp : s.phase = .sleep) :
    exec .sleep s = .next ((s.setSleepStart s.now).setPc .wait 0#5) := by
  rw [exec, execSleep, if_pos hp]

theorem exec_sleep_of_not_phase {s : State} (hp : s.phase ≠ .sleep) : exec .sleep s = .refused (.notEnabled .sleep) := by
  rw [exec, execSleep, if_neg hp]

theorem sleepOver_iff (s : State) : s.sleepOver = true ↔ s.cfg.tSleep ≤ s.elapsed s.sleepStart := by
  simp [State.sleepOver]

theorem exec_wake_of_over {s : State} (hp : s.phase = .wait) (hover : s.cfg.tSleep ≤ s.elapsed s.sleepStart) :
    exec .wake s = .next (s.setPc .blink 0#5) := by
  rw [exec, execWake, if_pos ⟨hp, (sleepOver_iff s).mpr hover⟩]

theorem exec_wake_of_not_over {s : State} (h : ¬ (s.phase = .wait ∧ s.cfg.tSleep ≤ s.elapsed s.sleepStart)) :
    exec .wake s = .refused (.notEnabled .wake) := by
  rw [exec, execWake, if_neg (by rwa [sleepOver_iff])]

/-- Outside the main loop every operation is enabled in every state. -/
theorem exec_of_not_mainLoop {i : Instr} (hi : i.opClass ≠ .mainLoop) (s : State) : ∃ t, exec i s = .next t := by
  cases i with
  | blink | pixel | sleep | wake => exact absurd rfl hi
  | edgeInc | edgeDec | edgeTog | edgeUnk | tick | sample lv | reset => exact ⟨_, rfl⟩

/-- Settles O29: the phase, and for `WAKE` the time guard, decide between the two outcomes of each main-loop operation. -/
theorem enabledExactlyAsSequenced : Obligations.EnabledExactlyAsSequenced := fun s =>
  ⟨fun _ hi => exec_of_not_mainLoop hi s, exec_blink_of_not_phase, exec_pixel_of_not_render, exec_sleep_of_not_phase,
    exec_wake_of_not_over, fun hp => ⟨_, exec_blink_of_phase hp⟩,
    fun hp hk => ⟨_, exec_pixel_of_cell hp (Nat.lt_succ_of_le hk)⟩, fun hp => ⟨_, exec_sleep_of_phase hp⟩,
    fun hp hover => ⟨_, exec_wake_of_over hp hover⟩⟩

/-- An operation is refused only for not being enabled (R52). -/
theorem refusal_eq_notEnabled {i : Instr} {s : State} {r : Refusal} (h : exec i s = .refused r) : r = .notEnabled i := by
  by_cases hi : i.opClass = .mainLoop
  · cases i with
    | blink =>
      by_cases hp : s.phase = .blink
      · rw [exec_blink_of_phase hp] at h; cases h
      · rw [exec_blink_of_not_phase hp] at h; cases h; rfl
    | pixel =>
      by_cases hp : s.phase = .render
      · rcases Nat.lt_or_ge s.idx.toNat 25 with hk | hk
        · rw [exec_pixel_of_cell hp hk] at h; cases h
        · rw [exec_pixel_of_missing hp hk] at h; cases h
      · rw [exec_pixel_of_not_render hp] at h; cases h; rfl
    | sleep =>
      by_cases hp : s.phase = .sleep
      · rw [exec_sleep_of_phase hp] at h; cases h
      · rw [exec_sleep_of_not_phase hp] at h; cases h; rfl
    | wake =>
      by_cases hw : s.phase = .wait ∧ s.cfg.tSleep ≤ s.elapsed s.sleepStart
      · obtain ⟨hp, hover⟩ := hw
        rw [exec_wake_of_over hp hover] at h; cases h
      · rw [exec_wake_of_not_over hw] at h; cases h; rfl
    | _ => cases hi
  · obtain ⟨t, ht⟩ := exec_of_not_mainLoop hi s
    rw [ht] at h; cases h

/-! ## Offered codes and pin events -/

theorem step_of_reserved {s : State} {op : Op8} {rest : List Stimulus} {r : Reserved} (hin : s.inputs = .code op :: rest)
    (hdec : decodeOp op = .reserved r) : step s = .refused (.reservedCode r) := by
  simp only [step, State.fetch, hin, hdec]

/-- An operation that is fetched is not refused as a reserved code, whatever the state. -/
theorem step_refuses_iff_reserved {s : State} {op : Op8} {rest : List Stimulus} (hin : s.inputs = .code op :: rest) :
    (∃ r, step s = .refused (.reservedCode r)) ↔ ∃ r, decodeOp op = .reserved r := by
  constructor
  · rintro ⟨r, hstep⟩
    cases hdec : decodeOp op with
    | operation i =>
      rw [step_of_fetch_ok (fetch_of_code hin hdec)] at hstep
      cases refusal_eq_notEnabled hstep
    | reserved r => exact ⟨r, rfl⟩
  · rintro ⟨r, hdec⟩
    exact ⟨r, step_of_reserved hin hdec⟩

/-- Settles O51: the decoder alone refuses a code as reserved, and it does so in the ranges of R51. -/
theorem stepRefusesReservedCodes : Obligations.StepRefusesReservedCodes :=
  fun _ op _ hin => ((step_refuses_iff_reserved hin).trans (decodeOp_reserved_iff op)).symm

theorem step_of_pin {s : State} {p : PinId} {rest : List Stimulus} (hin : s.inputs = .pin p :: rest) :
    step s = exec (decodePin s.cfg p) (s.setInputs rest) :=
  step_of_fetch_ok (by simp only [State.fetch, hin])

theorem buttonPinsDistinct_iff (c : Config) :
    c.buttonPinsDistinct = true ↔ c.pinInc ≠ c.pinDec ∧ c.pinInc ≠ c.pinTog ∧ c.pinDec ≠ c.pinTog := by
  simp [Config.buttonPinsDistinct, and_assoc]

theorem decodePin_pinInc (c : Config) : decodePin c c.pinInc = .edgeInc := by
  simp [decodePin]

theorem decodePin_pinDec {c : Config} (h : c.pinInc ≠ c.pinDec) : decodePin c c.pinDec = .edgeDec := by
  simp [decodePin, h.symm]

theorem decodePin_pinTog {c : Config} (hinc : c.pinInc ≠ c.pinTog) (hdec : c.pinDec ≠ c.pinTog) :
    decodePin c c.pinTog = .edgeTog := by
  simp [decodePin, hinc.symm, hdec.symm]

theorem decodePin_other {c : Config} {p : PinId} (hinc : p ≠ c.pinInc) (hdec : p ≠ c.pinDec) (htog : p ≠ c.pinTog) :
    decodePin c p = .edgeUnk := by
  simp [decodePin, hinc, hdec, htog]

/-- Settles O52: the step runs what the pin decodes to, and distinct pins decode to distinct operations. -/
theorem stepDispatchesPinEvents : Obligations.StepDispatchesPinEvents := by
  intro s p rest hin hpins
  obtain ⟨hid, hit, hdt⟩ := (buttonPinsDistinct_iff s.cfg).mp hpins
  rw [step_of_pin hin]
  refine ⟨?_, ?_, ?_, ?_⟩
  · rintro rfl; rw [decodePin_pinInc]; rfl
  · rintro rfl; rw [decodePin_pinDec hid]; rfl
  · rintro rfl; rw [decodePin_pinTog hit hdt]; rfl
  · intro hinc hdec htog; rw [decodePin_other hinc hdec htog]; rfl

/-! ## `PRESS` -/

theorem exec_sample (lv : Levels) (s : State) : exec (.sample lv) s = .next (sampled lv s) := rfl

theorem sampleButton_of_fall {lv : Levels} {b : Button} {s : State} (h : fallingEdge s.btnPrev lv b = true) :
    sampleButton lv b s = performEdge b s := by
  simp [sampleButton, h]

theorem sampleButton_of_no_fall {lv : Levels} {b : Button} {s : State} (h : fallingEdge s.btnPrev lv b = false) :
    sampleButton lv b s = s := by
  simp [sampleButton, h]

/-- A sample in which no level falls remembers the levels and does nothing else (R61). -/
theorem sampled_of_no_fall {lv : Levels} {s : State} (h : ∀ b, fallingEdge s.btnPrev lv b = false) :
    sampled lv s = s.setBtnPrev lv := by
  simp only [sampled, sampleButton_of_no_fall (h _)]

/-- A sample in which one button's level falls is that button's edge operation. -/
theorem sampled_of_one_fall {lv : Levels} {b : Button} {s : State} (hfall : fallingEdge s.btnPrev lv b = true)
    (hsteady : ∀ c, c ≠ b → fallingEdge s.btnPrev lv c = false) :
    sampled lv s = (performEdge b s).setBtnPrev lv := by
  have quiet : ∀ c u, c ≠ b → u.btnPrev = s.btnPrev → sampleButton lv c u = u :=
    fun c u hc hu => sampleButton_of_no_fall (hu ▸ hsteady c hc)
  cases b with
  | inc =>
    rw [sampled, sampleButton_of_fall hfall, quiet .dec _ (by decide) (by simp), quiet .tog _ (by decide) (by simp)]
  | dec =>
    rw [sampled, quiet .inc s (by decide) rfl, sampleButton_of_fall hfall, quiet .tog _ (by decide) (by simp)]
  | tog =>
    rw [sampled, quiet .inc s (by decide) rfl, quiet .dec s (by decide) rfl, sampleButton_of_fall hfall]

theorem fallingEdge_released (prev : Levels) (b : Button) : fallingEdge prev 0b111#3 b = false := by
  cases b <;> simp [fallingEdge, levelOf, Button.index]

theorem fallingEdge_pressedOnly (b c : Button) : fallingEdge 0b111#3 (pressedOnly b) c = decide (c = b) := by
  cases b <;> cases c <;> rfl

theorem setBtnPrev_setBtnPrev (s : State) (lv lv' : Levels) : (s.setBtnPrev lv).setBtnPrev lv' = s.setBtnPrev lv' := rfl

theorem setBtnPrev_self {s : State} {lv : Levels} (h : s.btnPrev = lv) : s.setBtnPrev lv = s := by
  subst h; rfl

/-- The press is the one falling edge, and the release is none. -/
theorem sampled_press (b : Button) {s : State} (h : s.btnPrev = 0b111#3) :
    sampled 0b111#3 (sampled (pressedOnly b) s) = performEdge b s := by
  have press : sampled (pressedOnly b) s = (performEdge b s).setBtnPrev (pressedOnly b) :=
    sampled_of_one_fall (by simp [h, fallingEdge_pressedOnly])
      (fun c hc => by rw [h, fallingEdge_pressedOnly, decide_eq_false hc])
  rw [press, sampled_of_no_fall (fallingEdge_released _), setBtnPrev_setBtnPrev,
    setBtnPrev_self ((performEdge_btnPrev b s).trans h)]

theorem runOps_cons_of_next {i : Instr} {s t : State} (h : exec i s = .next t) (rest : List Instr) :
    runOps (i :: rest) s = runOps rest t := by
  simp only [runOps, h]

theorem runOps_press (b : Button) {s : State} (h : s.btnPrev = 0b111#3) :
    runOps (TraceItem.press b).expand s = .next (performEdge b s) := by
  rw [TraceItem.expand, runOps_cons_of_next (exec_sample _ _), runOps_cons_of_next (exec_sample _ _), sampled_press b h, runOps]

theorem runOps_edge (b : Button) (s : State) : runOps (TraceItem.edge b).expand s = .next (performEdge b s) := by
  rw [TraceItem.expand, runOps_cons_of_next (edgeOp_exec b s), runOps]

/-- Settles O57: both traces leave what the whole edge operation leaves, which does not touch the levels remembered. -/
theorem pressIsOneEdge : Obligations.PressIsOneEdge := fun b s h =>
  ⟨(runOps_press b h).trans (runOps_edge b s).symm, _, runOps_press b h, (performEdge_btnPrev b s).trans h⟩

/-! ## `ITER` -/

theorem runOps_append_of_next {l : List Instr} {s t : State} (h : runOps l s = .next t) (rest : List Instr) :
    runOps (l ++ rest) s = runOps rest t := by
  rw [runOps_append, h]

/-- The poll writes the indicator, its output and the time of the toggle. -/
theorem polled_frame (s : State) :
    s.polled = { s with ind := s.polled.ind, statusOut := s.polled.statusOut, lastTog := s.polled.lastTog } := by
  unfold State.polled
  split <;> rfl

@[simp] theorem polled_cfg (s : State) : s.polled.cfg = s.cfg := by rw [polled_frame]
@[simp] theorem polled_en (s : State) : s.polled.en = s.en := by rw [polled_frame]
@[simp] theorem polled_buf (s : State) : s.polled.buf = s.buf := by rw [polled_frame]
@[simp] theorem polled_now (s : State) : s.polled.now = s.now := by rw [polled_frame]
@[simp] theorem polled_tx (s : State) : s.polled.tx = s.tx := by rw [polled_frame]

theorem exec_pixel_of_last_cell {s : State} (hp : s.phase = .render) (hk : s.idx = 24#5) :
    exec .pixel s = .next ((s.emit (frameWord s.cfg s.en s.buf s.idx.toNat)).setPc .sleep 0#5) := by
  rw [exec_pixel_of_cell hp (by rw [hk]; decide), State.advanceSweep, emit_idx, if_pos hk]

theorem exec_pixel_of_earlier_cell {s : State} (hp : s.phase = .render) (hk : s.idx.toNat < 24) :
    exec .pixel s = .next ((s.emit (frameWord s.cfg s.en s.buf s.idx.toNat)).setPc .render (s.idx + 1#5)) := by
  have more : s.idx ≠ 24#5 := fun e => absurd hk (by rw [e]; decide)
  rw [exec_pixel_of_cell hp (by omega), State.advanceSweep, emit_idx, if_neg more]

/-- A sweep from cell `idx` on sends the words of the cells left, and ends in `P_SLEEP` (R75, R76). -/
theorem runOps_pixels (n : Nat) {s : State} (hp : s.phase = .render) (hn : s.idx.toNat + n = 24) :
    runOps (List.replicate (n + 1) .pixel) s = .next { s with
      tx := s.tx ++ (List.range' s.idx.toNat (n + 1)).map (frameWord s.cfg s.en s.buf), phase := .sleep, idx := 0#5 } := by
  induction n generalizing s with
  | zero =>
    have last : s.idx = 24#5 := BitVec.eq_of_toNat_eq hn
    rw [List.replicate_succ, runOps_cons_of_next (exec_pixel_of_last_cell hp last)]
    rfl
  | succ n ih =>
    have next : (s.idx + 1#5).toNat = s.idx.toNat + 1 := by
      rw [BitVec.toNat_add, BitVec.toNat_ofNat]; omega
    rw [List.replicate_succ, runOps_cons_of_next (exec_pixel_of_earlier_cell hp (by omega)),
      ih rfl (by rw [setPc_idx, next]; omega)]
    simp [next, List.range'_succ (n := n + 1), State.setPc, State.emit]

/-- The 25 words of `RENDER` are the frame of the display state. -/
theorem runOps_render {s : State} (hp : s.phase = .render) (hk : s.idx = 0#5) :
    runOps TraceItem.render.expand s = .next { s with
      tx := s.tx ++ frameOf s.cfg s.en s.buf, phase := .sleep, idx := 0#5 } := by
  rw [TraceItem.expand, runOps_pixels 24 hp (by rw [hk]; rfl), hk, frameOf, List.range_eq_range']
  rfl

/-- `TICK n` adds `n` to a `TW`-bit `now`, modulo `2^TW`. -/
theorem runOps_ticks_of_lt (n : Nat) {s : State} (hnow : s.now < 2 ^ s.cfg.tw) :
    runOps (TraceItem.ticks n).expand s = .next (s.setNow ((s.now + n) % 2 ^ s.cfg.tw)) := by
  obtain ⟨m, hrun, hmod, hlt⟩ := runOps_ticks n s
  rw [TraceItem.expand, hrun, ← hmod, Nat.mod_eq_of_lt (hlt hnow)]

theorem iter0_expand : TraceItem.iter0.expand = Instr.blink :: (TraceItem.render.expand ++ [Instr.sleep]) := rfl

theorem iter_expand : TraceItem.iter.expand = TraceItem.iter0.expand ++ ((TraceItem.ticks 100).expand ++ [Instr.wake]) :=
  List.append_assoc ..

/-- The active part of an iteration, to the sleep: the poll and the frame, in no time (R90). -/
theorem runOps_iter0 {s : State} (hp : s.phase = .blink) :
    runOps TraceItem.iter0.expand s = .next { s.polled with
      tx := s.tx ++ frameOf s.cfg s.en s.buf, phase := .wait, idx := 0#5, sleepStart := s.now } := by
  rw [iter0_expand, runOps_cons_of_next (exec_blink_of_phase hp),
    runOps_append_of_next (runOps_render rfl rfl), runOps_cons_of_next (exec_sleep_of_phase rfl), runOps]
  simp [State.setPc, State.setSleepStart]

/-- A sleep of `T_SLEEP` ms is over: `WAKE` may come at the first such millisecond (R93). -/
theorem sleep_over_of_now_eq {s : State} (hwidth : s.cfg.tSleep < 2 ^ s.cfg.tw)
    (hnow : s.now = (s.sleepStart + s.cfg.tSleep) % 2 ^ s.cfg.tw) : s.cfg.tSleep ≤ s.elapsed s.sleepStart :=
  (elapsed_of_modEq hwidth (by rw [hnow, Nat.mod_mod])).ge

/-- The whole iteration: its sleep is exactly over when `WAKE` comes (R90, R93, R97). -/
theorem runOps_iter {s : State} (hp : s.phase = .blink) (hnow : s.now < 2 ^ s.cfg.tw) (hsleep : s.cfg.tSleep = 100)
    (hwidth : 100 < 2 ^ s.cfg.tw) :
    runOps TraceItem.iter.expand s = .next { s.polled with
      tx := s.tx ++ frameOf s.cfg s.en s.buf, phase := .blink, idx := 0#5, now := (s.now + 100) % 2 ^ s.cfg.tw,
      sleepStart := s.now } := by
  rw [iter_expand, runOps_append_of_next (runOps_iter0 hp),
    runOps_append_of_next (runOps_ticks_of_lt 100 (by simpa using hnow)),
    runOps_cons_of_next (exec_wake_of_over rfl
      (sleep_over_of_now_eq (by simpa [hsleep] using hwidth) (by simp [hsleep]))), runOps]
  simp [State.setPc, State.setNow]

/-- Settles O58: what an exact iteration leaves is written out, and the poll is of the main context. -/
theorem iterIsOneExactIteration : Obligations.IterIsOneExactIteration := by
  intro s hp hnow hsleep hwidth
  refine ⟨_, runOps_iter hp hnow hsleep hwidth, rfl, rfl, rfl, rfl, rfl, ?_⟩
  rw [polled_frame]
  exact ⟨rfl, rfl, rfl, rfl, rfl, rfl, rfl⟩

end Sys2Proof.Machine
end

section
/-!
PROOFS of 40_button_input.md: the edge operations (R64 to R66, R68), the sample of the pin levels (R60, R61) and the debounce window
(R62, R69).
-/

namespace Sys2Proof.Machine

/-! ## The actions of the buttons -/

@[simp] theorem refresh_digit (s : State) : s.refresh.digit = s.digit := by rw [refresh_frame]
@[simp] theorem refresh_en (s : State) : s.refresh.en = s.en := by rw [refresh_frame]

@[simp] theorem incAction_digit (s : State) : (incAction s).digit = digitUp s.digit := by rw [incAction_eq]; rfl
@[simp] theorem incAction_en (s : State) : (incAction s).en = s.en := by rw [incAction_eq]; rfl
@[simp] theorem decAction_digit (s : State) : (decAction s).digit = digitDown s.digit := by rw [decAction_eq]; rfl
@[simp] theorem decAction_en (s : State) : (decAction s).en = s.en := by rw [decAction_eq]; rfl

@[simp] theorem togAction_digit (s : State) : (togAction s).digit = s.digit := by
  cases h : s.en with
  | true => rw [togAction_disables h]; rfl
  | false => rw [togAction_enables h, refresh_digit]; rfl

@[simp] theorem togAction_en (s : State) : (togAction s).en = !s.en := by
  cases h : s.en with
  | true => rw [togAction_disables h]; rfl
  | false => rw [togAction_enables h, refresh_en]; rfl

/-- Only the toggle writes `en`. -/
theorem actionOf_en_of_ne_tog {b : Button} (hb : b ≠ .tog) (s : State) : (actionOf b s).en = s.en := by
  cases b with
  | inc => exact incAction_en s
  | dec => exact decAction_en s
  | tog => exact absurd rfl hb

/-! ## The three edge operations, discarded and accepted -/

theorem exec_edgeOp_of_discarded {b : Button} {s : State} (h : s.elapsed (s.lastAcc b) ≤ s.cfg.tDebounce) :
    exec (edgeOp b) s = .next s := by
  rw [edgeOp_exec, performEdge_discards h]

theorem exec_edgeOp_of_accepted {b : Button} {s : State} (h : s.cfg.tDebounce < s.elapsed (s.lastAcc b)) :
    exec (edgeOp b) s = .next (actionOf b (s.setLastAcc b s.now)) := by
  rw [edgeOp_exec, performEdge_accepts h]

/-- An accepted event's record is `now`: the action leaves it. -/
theorem actionOf_setLastAcc_lastAcc (b : Button) (s : State) :
    (actionOf b (s.setLastAcc b s.now)).lastAcc b = s.now := by
  rw [actionOf_lastAcc, lastAcc_setLastAcc]

/-- Settles O11: an accepted increment records, counts up and refreshes. -/
theorem edgeIncCountsUpWhenAccepted : Obligations.EdgeIncCountsUpWhenAccepted := by
  refine fun s => ⟨exec_edgeOp_of_discarded (b := .inc), fun haccepted => ?_⟩
  have hexec := exec_edgeOp_of_accepted (b := .inc) haccepted
  rw [actionOf, incAction_eq] at hexec
  exact hexec

/-- Settles O12: as O11 with the other button, whose sum before the reduction is the digit plus 9. -/
theorem edgeDecCountsDownWhenAccepted : Obligations.EdgeDecCountsDownWhenAccepted := by
  refine fun s => ⟨exec_edgeOp_of_discarded (b := .dec), fun haccepted => ?_⟩
  have hexec := exec_edgeOp_of_accepted (b := .dec) haccepted
  rw [actionOf, decAction_eq] at hexec
  exact hexec

theorem exec_edgeTog_disables {s : State} (haccepted : s.cfg.tDebounce < s.elapsed s.lastAccTog) (hen : s.en = true) :
    exec .edgeTog s = .next { s with lastAccTog := s.now, en := false, buf := 0#25 } := by
  have hexec := exec_edgeOp_of_accepted (b := .tog) haccepted
  rw [actionOf, togAction_disables (s := s.setLastAcc .tog s.now) hen] at hexec
  exact hexec

theorem exec_edgeTog_enables {s : State} (haccepted : s.cfg.tDebounce < s.elapsed s.lastAccTog) (hen : s.en = false)
    (hdigit : DigitLegal s) : exec .edgeTog s = .next
      { s with lastAccTog := s.now, en := true, buf := maskFor s.cfg (Fin.ofNat 10 s.digit.toNat) } := by
  have hexec := exec_edgeOp_of_accepted (b := .tog) haccepted
  have hlegal : ((s.setLastAcc .tog s.now).setEn true).digit.toNat < 10 := Nat.lt_succ_of_le hdigit
  rw [actionOf, togAction_enables (s := s.setLastAcc .tog s.now) hen, refresh_legal hlegal] at hexec
  exact hexec

/-- Settles O13: the flip decides between the clear and the refresh. -/
theorem edgeTogFlipsDisplayWhenAccepted : Obligations.EdgeTogFlipsDisplayWhenAccepted :=
  fun _ => ⟨exec_edgeOp_of_discarded (b := .tog),
    fun haccepted => ⟨exec_edgeTog_disables haccepted, exec_edgeTog_enables haccepted⟩⟩

/-! ## What an edge operation writes -/

theorem performEdge_en_of_ne_tog {b : Button} (hb : b ≠ .tog) (s : State) : (performEdge b s).en = s.en := by
  rcases performEdge_cases b s with ⟨_, e⟩ | ⟨_, e⟩ <;> rw [e]
  rw [actionOf_en_of_ne_tog hb, setLastAcc_en]

theorem performEdge_tog_digit (s : State) : (performEdge .tog s).digit = s.digit := by
  rcases performEdge_cases .tog s with ⟨_, e⟩ | ⟨_, e⟩ <;> rw [e]
  rw [actionOf, togAction_digit, setLastAcc_digit]

theorem performEdge_lastAcc_other {b other : Button} (h : other ≠ b) (s : State) :
    (performEdge b s).lastAcc other = s.lastAcc other :=
  (performEdge_lastAcc b other s).resolve_right fun ⟨e, _⟩ => h e

/-- With a legal digit nothing but the display state and the records is written (R68). -/
theorem performEdge_frame_legal (b : Button) {s : State} (h : DigitLegal s) :
    performEdge b s = { s with
      digit := (performEdge b s).digit, en := (performEdge b s).en, buf := (performEdge b s).buf,
      lastAccInc := (performEdge b s).lastAccInc, lastAccDec := (performEdge b s).lastAccDec,
      lastAccTog := (performEdge b s).lastAccTog } := by
  obtain ⟨hfault, hfree, _⟩ := performEdge_legal (b := b) h
  have hframe := performEdge_frame b s
  rw [hfault, hfree] at hframe
  exact hframe

/-- Settles O16: the frame, and of the records only the button's own can move, to `now`. -/
theorem edgeWritesDisplayAndOwnRecordOnly : Obligations.EdgeWritesDisplayAndOwnRecordOnly := by
  intro b s hdigit
  refine ⟨performEdge b s, edgeOp_exec b s, performEdge_frame_legal b hdigit,
    fun _ hother => performEdge_lastAcc_other hother s, ?_, fun hb => performEdge_en_of_ne_tog hb s, ?_⟩
  · exact (performEdge_lastAcc b b s).imp_right fun ⟨_, _, hrecord⟩ => hrecord
  · rintro rfl
    exact performEdge_tog_digit s

/-! ## The sample -/

/-- The part of `fallenEdges` that is one button's. -/
def edgeIfFallen (prev lv : Levels) (b : Button) : List Instr := if fallingEdge prev lv b then [edgeOp b] else []

theorem fallenEdges_eq (prev lv : Levels) :
    fallenEdges prev lv = edgeIfFallen prev lv .inc ++ edgeIfFallen prev lv .dec ++ edgeIfFallen prev lv .tog := rfl

/-- A button's part of the trace is its turn of the loop of `SAMPLE`. -/
theorem runOps_edgeIfFallen {prev lv : Levels} {b : Button} {s : State} (hprev : s.btnPrev = prev) :
    runOps (edgeIfFallen prev lv b) s = .next (sampleButton lv b s) := by
  subst hprev
  rcases sampleButton_cases lv b s with ⟨hfall, e⟩ | ⟨hfall, e⟩ <;> rw [e, edgeIfFallen, hfall]
  · exact runOps_edge b s
  · rfl

theorem runOps_fallenEdges (lv : Levels) (s : State) :
    runOps (fallenEdges s.btnPrev lv) s =
      .next (sampleButton lv .tog (sampleButton lv .dec (sampleButton lv .inc s))) := by
  rw [fallenEdges_eq, List.append_assoc, runOps_append_of_next (runOps_edgeIfFallen rfl),
    runOps_append_of_next (runOps_edgeIfFallen (by simp)), runOps_edgeIfFallen (by simp)]

/-- Settles O17: the trace is the three turns of the loop, after which the levels are remembered. -/
theorem sampleRunsFallenEdgesInOrder : Obligations.SampleRunsFallenEdgesInOrder :=
  fun lv s => ⟨_, runOps_fallenEdges lv s, exec_sample lv s⟩

theorem fallingEdge_eq_false_iff {prev lv : Levels} {b : Button} :
    fallingEdge prev lv b = false ↔ (levelOf prev b = true → levelOf lv b = true) := by
  simp [fallingEdge]

/-- Settles O18: no level that was high is low, so no button's turn does anything. -/
theorem sampleWithoutFallRemembersLevels : Obligations.SampleWithoutFallRemembersLevels := by
  intro lv s hhigh
  rw [exec_sample, sampled_of_no_fall fun b => fallingEdge_eq_false_iff.mpr (hhigh b.index)]
  rfl

/-! ## The debounce window -/

/-- An event of `b` in this state would be discarded (R62). -/
abbrev Deaf (b : Button) (s : State) : Prop := s.elapsed (s.lastAcc b) ≤ s.cfg.tDebounce

/-- While `b` is deaf no edge operation, its own or another's, moves its record. -/
theorem performEdge_lastAcc_of_deaf {b : Button} {s : State} (h : Deaf b s) (c : Button) :
    (performEdge c s).lastAcc b = s.lastAcc b := by
  rcases performEdge_lastAcc c b s with e | ⟨rfl, haccepted, _⟩
  · exact e
  · exact absurd h (Nat.not_le.mpr haccepted)

theorem deaf_performEdge {b : Button} {s : State} (h : Deaf b s) (c : Button) : Deaf b (performEdge c s) := by
  rw [Deaf, performEdge_lastAcc_of_deaf h, performEdge_cfg, elapsed_congr (performEdge_cfg c s) (performEdge_now c s)]
  exact h

theorem setBtnPrev_lastAcc (s : State) (lv : Levels) (b : Button) : (s.setBtnPrev lv).lastAcc b = s.lastAcc b := by
  cases b <;> rfl

theorem deaf_setBtnPrev {b : Button} {s : State} (h : Deaf b s) (lv : Levels) : Deaf b (s.setBtnPrev lv) := by
  rw [Deaf, setBtnPrev_lastAcc]; exact h

/-- The turns of `SAMPLE` take no time, so that `b` stays deaf through all of them. -/
theorem sampled_lastAcc_of_deaf {b : Button} {s : State} (h : Deaf b s) (lv : Levels) :
    (sampled lv s).lastAcc b = s.lastAcc b := by
  have kept := sampled_preserves (P := fun u => Deaf b u ∧ u.lastAcc b = s.lastAcc b)
    (fun u lv' ⟨hdeaf, hrecord⟩ => ⟨deaf_setBtnPrev hdeaf lv', (setBtnPrev_lastAcc u lv' b).trans hrecord⟩)
    (fun c u ⟨hdeaf, hrecord⟩ => ⟨deaf_performEdge hdeaf c, (performEdge_lastAcc_of_deaf hdeaf c).trans hrecord⟩)
    lv ⟨h, rfl⟩
  exact kept.2

theorem edgeFree_mainLoop {i : Instr} (hi : i.opClass = .mainLoop) (b : Button) (prev : Levels) :
    edgeFree b prev [i] = true := by
  cases i with
  | blink | pixel | sleep | wake => rfl
  | edgeInc | edgeDec | edgeTog | edgeUnk | tick | sample lv | reset => cases hi

/-- While `b` is deaf no operation but `RESET` moves its record (R69 c, d). -/
theorem exec_lastAcc_of_deaf {b : Button} {i : Instr} {s t : State} (hdeaf : Deaf b s) (hi : i ≠ .reset)
    (h : exec i s = .next t) : t.lastAcc b = s.lastAcc b := by
  have quiet : edgeFree b s.btnPrev [i] = true → t.lastAcc b = s.lastAcc b := fun hfree => (exec_edgeFree hi hfree h).1
  by_cases hm : i.opClass = .mainLoop
  · exact quiet (edgeFree_mainLoop hm b _)
  rcases nonMainLoop_cases hm h with ⟨c, _, rfl⟩ | ⟨rfl, _⟩ | ⟨lv, _, rfl⟩ | ⟨rfl, _⟩ | ⟨hreset, _⟩
  · exact performEdge_lastAcc_of_deaf hdeaf c
  · exact quiet rfl
  · exact sampled_lastAcc_of_deaf hdeaf lv
  · exact quiet rfl
  · exact absurd hreset hi

theorem ticksIn_append (l₁ l₂ : List Instr) : ticksIn (l₁ ++ l₂) = ticksIn l₁ + ticksIn l₂ := List.count_append

/-- A run over two traces goes through a state between them. -/
theorem runOps_append_next {l₁ l₂ : List Instr} {s t : State} (h : runOps (l₁ ++ l₂) s = .next t) :
    ∃ u, runOps l₁ s = .next u ∧ runOps l₂ u = .next t := by
  rw [runOps_append] at h
  cases h₁ : runOps l₁ s with
  | next u => rw [h₁] at h; exact ⟨u, rfl, h⟩
  | fault r => rw [h₁] at h; cases h
  | refused r => rw [h₁] at h; cases h

/-- In a run without `RESET`, the `TICK`s since a record of that moment's `now` are what has elapsed of it. -/
theorem runOps_elapsed {ops : List Instr} {s t : State} (hr : .reset ∉ ops) (h : runOps ops s = .next t)
    (hwidth : ticksIn ops < 2 ^ s.cfg.tw) : t.elapsed s.now = ticksIn ops := by
  obtain ⟨hcfg, hnow⟩ := runOps_now hr h
  exact elapsed_of_modEq (hcfg ▸ hwidth) (hcfg ▸ hnow)

theorem runOps_deaf {b : Button} {ops : List Instr} {s t : State} (hwidth : s.cfg.tDebounce < 2 ^ s.cfg.tw)
    (hr : .reset ∉ ops) (hticks : ticksIn ops ≤ s.cfg.tDebounce) (h : runOps ops s = .next t)
    (hrecord : t.lastAcc b = s.now) : Deaf b t := by
  rw [Deaf, hrecord, runOps_elapsed hr h (hticks.trans_lt hwidth), (runOps_now hr h).1]
  exact hticks

/-- From the moment of its record on, `b` keeps it for `T_DEBOUNCE` ms: by induction from the end of the trace, since before each
operation the ones before it have left `b` deaf. -/
theorem runOps_lastAcc_of_window {b : Button} {ops : List Instr} {s t : State} (hs : s.lastAcc b = s.now)
    (hwidth : s.cfg.tDebounce < 2 ^ s.cfg.tw) (hr : .reset ∉ ops) (hticks : ticksIn ops ≤ s.cfg.tDebounce)
    (h : runOps ops s = .next t) : t.lastAcc b = s.now := by
  induction ops using List.reverseRecOn generalizing t with
  | nil => cases h; exact hs
  | append_singleton ops i ih =>
    obtain ⟨u, hbefore, hlast⟩ := runOps_append_next h
    obtain ⟨_, hexec, hnil⟩ := runOps_cons_next hlast
    cases hnil
    simp only [List.mem_append, List.mem_singleton, not_or] at hr
    obtain ⟨hrbefore, hri⟩ := hr
    have hticksbefore : ticksIn ops ≤ s.cfg.tDebounce := by rw [ticksIn_append] at hticks; omega
    have hrecord : u.lastAcc b = s.now := ih hrbefore hticksbefore hbefore
    have hdeaf : Deaf b u := runOps_deaf hwidth hrbefore hticksbefore hbefore hrecord
    exact (exec_lastAcc_of_deaf hdeaf (Ne.symm hri) hexec).trans hrecord

/-- An accepted edge leaves its record at `now`. -/
theorem exec_edgeOp_accepted_records {b : Button} {s s' : State} (haccepted : s.cfg.tDebounce < s.elapsed (s.lastAcc b))
    (h : exec (edgeOp b) s = .next s') : s'.lastAcc b = s'.now ∧ s'.now = s.now ∧ s'.cfg = s.cfg := by
  rw [edgeOp_exec] at h
  cases h
  refine ⟨?_, performEdge_now b s, performEdge_cfg b s⟩
  rw [performEdge_now, performEdge_accepts haccepted, actionOf_setLastAcc_lastAcc]

/-- Settles O19: within the window the record is that of the accepted edge, and so a further one is discarded. -/
theorem windowDiscardsUntilThreshold : Obligations.WindowDiscardsUntilThreshold := by
  intro b s s' u between haccepted hedge _ hwidth hr hticks hrun
  obtain ⟨hrecord, hnow, hcfg⟩ := exec_edgeOp_accepted_records haccepted hedge
  rw [← hcfg] at hwidth hticks
  have hkept : u.lastAcc b = s'.now := runOps_lastAcc_of_window hrecord hwidth hr hticks hrun
  exact ⟨hkept.trans hnow, exec_edgeOp_of_discarded (runOps_deaf hwidth hr hticks hrun hkept)⟩

/-- What an accepted edge of each button does to the digit or to `en` (R64 to R66). -/
theorem actionOf_acts (b : Button) (s : State) :
    (b = .inc → (actionOf b s).digit = digitUp s.digit) ∧ (b = .dec → (actionOf b s).digit = digitDown s.digit) ∧
      (b = .tog → (actionOf b s).en = !s.en) := by
  refine ⟨?_, ?_, ?_⟩
  · rintro rfl; exact incAction_digit s
  · rintro rfl; exact decAction_digit s
  · rintro rfl; exact togAction_en s

/-- Settles O20: the record is still that of the accepted edge, since `b` is deaf in the window and has no event after it; of that
record more than `T_DEBOUNCE` ms have elapsed. -/
theorem windowEndsAfterThreshold : Obligations.WindowEndsAfterThreshold := by
  intro b s s' v u window after haccepted hedge hnowfits hrw hra hwindow hlate hwrap hrunw hruna hfree
  obtain ⟨hrecord, hnow, hcfg⟩ := exec_edgeOp_accepted_records haccepted hedge
  rw [← ticksIn_append] at hlate hwrap ⊢
  rw [← hcfg] at hnowfits hwindow hlate hwrap ⊢
  rw [← hnow] at hnowfits ⊢
  have hr : .reset ∉ window ++ after := by simp [hrw, hra]
  have hrun : runOps (window ++ after) s' = .next u := (runOps_append_of_next hrunw after).trans hruna
  have hkept : u.lastAcc b = s'.now :=
    (runOps_edgeFree hra hfree hruna).trans (runOps_lastAcc_of_window hrecord (hlate.trans hwrap) hrw hwindow hrunw)
  obtain ⟨hucfg, humod⟩ := runOps_now hr hrun
  have hunow : u.now = (s'.now + ticksIn (window ++ after)) % 2 ^ s'.cfg.tw :=
    (Nat.mod_eq_of_lt (runOps_now_lt hr hrun hnowfits)).symm.trans humod
  have hagain : u.cfg.tDebounce < u.elapsed (u.lastAcc b) := by
    rw [hkept, runOps_elapsed hr hrun hwrap, hucfg]
    exact hlate
  exact ⟨_, exec_edgeOp_of_accepted hagain, (actionOf_setLastAcc_lastAcc b u).trans hunow, actionOf_acts b _⟩

/-! ## Two toggles -/

theorem ticks_expand (n : Nat) : (TraceItem.ticks n).expand = List.replicate n .tick := rfl

/-- The toggle back on, `n` ms after the one that disabled the display. -/
theorem runOps_ticks_edgeTog_enables {s : State} {n : Nat} (hrecord : s.lastAccTog = s.now) (hen : s.en = false)
    (hdigit : DigitLegal s) (hnow : s.now < 2 ^ s.cfg.tw) (hlate : s.cfg.tDebounce < n) (hwrap : n < 2 ^ s.cfg.tw) :
    runOps (List.replicate n .tick ++ [.edgeTog]) s = .next { s with
      now := (s.now + n) % 2 ^ s.cfg.tw, lastAccTog := (s.now + n) % 2 ^ s.cfg.tw, en := true,
      buf := maskFor s.cfg (Fin.ofNat 10 s.digit.toNat) } := by
  have helapsed : (s.setNow ((s.now + n) % 2 ^ s.cfg.tw)).elapsed s.lastAccTog = n :=
    elapsed_of_modEq hwrap (by rw [hrecord]; exact Nat.mod_mod _ _)
  have htoggle := exec_edgeTog_enables (s := s.setNow ((s.now + n) % 2 ^ s.cfg.tw)) (hlate.trans_eq helapsed.symm) hen hdigit
  rw [← ticks_expand, runOps_append_of_next (runOps_ticks_of_lt n hnow), runOps_cons_of_next htoggle]
  rfl

/-- A toggle off and, after the window, a toggle on: the buffer is that of the digit, and the record that of the second. -/
theorem runOps_toggle_pair {s : State} {n : Nat} (hdigit : DigitLegal s) (hen : s.en = true) (hnow : s.now < 2 ^ s.cfg.tw)
    (haccepted : s.cfg.tDebounce < s.elapsed s.lastAccTog) (hlate : s.cfg.tDebounce < n) (hwrap : n < 2 ^ s.cfg.tw) :
    runOps ([.edgeTog] ++ List.replicate n .tick ++ [.edgeTog]) s = .next { s with
      now := (s.now + n) % 2 ^ s.cfg.tw, lastAccTog := (s.now + n) % 2 ^ s.cfg.tw, en := true,
      buf := maskFor s.cfg (Fin.ofNat 10 s.digit.toNat) } := by
  rw [List.append_assoc, List.singleton_append, runOps_cons_of_next (exec_edgeTog_disables haccepted hen)]
  exact runOps_ticks_edgeTog_enables rfl rfl hdigit hnow hlate hwrap

/-- Settles O25: by (I2) an enabled display's buffer is the digit's pattern already before the two toggles. -/
theorem togglePairRestoresEnabledDisplay : Obligations.TogglePairRestoresEnabledDisplay := by
  rintro s t n ⟨hdigit, hshows, _⟩ hen hnow haccepted hlate hwrap hrun
  rw [runOps_toggle_pair hdigit hen hnow haccepted hlate hwrap] at hrun
  cases hrun
  exact ⟨hen.symm, rfl, (hshows hen).symm, rfl⟩

end Sys2Proof.Machine
end

section
/-!
PROOFS of 41_matrix_renderer.md: `PIXEL` (R75), the pixel stream (R80, R81), and what a sweep sends (R76, R77, R79).
-/

namespace Sys2Proof.Machine

/-! ## `PIXEL` -/

theorem exec_pixel_of_last_cell_eq {s : State} (hp : s.phase = .render) (hk : s.idx.toNat = 24) :
    exec .pixel s = .next
      { s with tx := s.tx ++ [frameWord s.cfg s.en s.buf 24], phase := .sleep, idx := 0#5 } := by
  rw [exec_pixel_of_last_cell hp (BitVec.eq_of_toNat_eq hk), hk]
  rfl

theorem exec_pixel_of_earlier_cell_eq {s : State} (hp : s.phase = .render) (hk : s.idx.toNat < 24) :
    exec .pixel s = .next
      { s with tx := s.tx ++ [frameWord s.cfg s.en s.buf s.idx.toNat], idx := s.idx + 1#5 } := by
  rw [exec_pixel_of_earlier_cell hp hk, ← hp]
  rfl

/-- Settles O9: the cell is the last one or an earlier one, or the sequencer selects no `PIXEL`. -/
theorem pixelEmitsCellAndAdvances : Obligations.PixelEmitsCellAndAdvances :=
  fun _ => ⟨exec_pixel_of_earlier_cell_eq, exec_pixel_of_last_cell_eq, exec_pixel_of_not_render⟩

/-! ## What one operation does to the sequencer and the stream -/

/-- The sequencer stands where it stood, and the stream and its mark are the same. -/
abbrev SameSweep (s t : State) : Prop := t.phase = s.phase ∧ t.idx = s.idx ∧ t.tx = s.tx ∧ t.txMark = s.txMark

/-- Button operations and time leave the sequencer and the stream (R39 d, R95). -/
theorem exec_sameSweep {i : Instr} {s t : State} (hm : i.opClass ≠ .mainLoop) (hr : i ≠ .reset) (h : exec i s = .next t) :
    SameSweep s t := by
  rcases nonMainLoop_cases hm h with ⟨b, _, rfl⟩ | ⟨_, rfl⟩ | ⟨lv, _, rfl⟩ | ⟨_, rfl⟩ | ⟨hreset, _⟩
  · simp [SameSweep]
  · split <;> simp [SameSweep]
  · simp [SameSweep]
  · simp [SameSweep]
  · exact absurd hreset hr

/-- The main loop outside a sweep sends nothing, and leaves `idx` at 0 (R90). -/
theorem mainLoop_outside_sweep {i : Instr} {s t : State} (hm : i.opClass = .mainLoop) (hi : i ≠ .pixel)
    (h : exec i s = .next t) : s.phase ≠ .render ∧ t.idx = 0#5 ∧ t.tx = s.tx ∧ t.txMark = s.txMark := by
  rcases mainLoop_cases hm h with ⟨_, hp, rfl⟩ | ⟨hpixel, _⟩ | ⟨_, hp, rfl⟩ | ⟨_, hp, _, rfl⟩
  · refine ⟨by simp [hp], rfl, ?_⟩
    split <;> exact ⟨rfl, rfl⟩
  · exact absurd hpixel hi
  · exact ⟨by simp [hp], rfl, rfl, rfl⟩
  · exact ⟨by simp [hp], rfl, rfl, rfl⟩

theorem exec_pixel_inv {s t : State} (h : exec .pixel s = .next t) :
    s.phase = .render ∧ s.idx.toNat < 25 ∧ t = (s.emit (frameWord s.cfg s.en s.buf s.idx.toNat)).advanceSweep := by
  rcases mainLoop_cases rfl h with ⟨hi, _⟩ | ⟨_, hinv⟩ | ⟨hi, _⟩ | ⟨hi, _⟩
  · cases hi
  · exact hinv
  · cases hi
  · cases hi

theorem exec_reset_inv {s t : State} (h : exec .reset s = .next t) :
    t.idx = 0#5 ∧ t.tx = s.tx ∧ t.txMark = s.tx.length := by
  rw [exec, execReset_eq] at h
  cases h
  exact ⟨rfl, rfl, rfl⟩

/-- All an operation can do to the sequencer and the stream when it answers a next state: `PIXEL` sends and advances, the rest of the
main loop and `RESET` put `idx` at 0, and any other operation leaves both. -/
theorem exec_sweep_cases {i : Instr} {s t : State} (h : exec i s = .next t) :
    (i = .pixel ∧ s.phase = .render ∧ s.idx.toNat < 25 ∧
      t = (s.emit (frameWord s.cfg s.en s.buf s.idx.toNat)).advanceSweep) ∨
    (i ≠ .pixel ∧ s.phase ≠ .render ∧ t.idx = 0#5 ∧ t.tx = s.tx ∧ t.txMark = s.txMark) ∨
    (i ≠ .pixel ∧ t.idx = 0#5 ∧ t.tx = s.tx ∧ t.txMark = s.tx.length) ∨
    (i ≠ .pixel ∧ SameSweep s t) := by
  by_cases hi : i = .pixel
  · subst hi
    exact .inl ⟨rfl, exec_pixel_inv h⟩
  by_cases hm : i.opClass = .mainLoop
  · exact .inr (.inl ⟨hi, mainLoop_outside_sweep hm hi h⟩)
  by_cases hr : i = .reset
  · subst hr
    exact .inr (.inr (.inl ⟨hi, exec_reset_inv h⟩))
  · exact .inr (.inr (.inr ⟨hi, exec_sameSweep hm hr h⟩))

/-! ## What one operation sends -/

/-- The words an operation sends: one by `PIXEL`, none by any other (R80). -/
def wordSent (i : Instr) (s : State) : List Color24 :=
  if i = .pixel then [frameWord s.cfg s.en s.buf s.idx.toNat] else []

@[simp] theorem wordSent_pixel (s : State) : wordSent .pixel s = [frameWord s.cfg s.en s.buf s.idx.toNat] := if_pos rfl

theorem wordSent_of_ne_pixel {i : Instr} (hi : i ≠ .pixel) (s : State) : wordSent i s = [] := if_neg hi

theorem exec_tx {i : Instr} {s t : State} (h : exec i s = .next t) : t.tx = s.tx ++ wordSent i s := by
  rcases exec_sweep_cases h with ⟨rfl, _, _, rfl⟩ | ⟨hi, _, _, htx, _⟩ | ⟨hi, _, htx, _⟩ | ⟨hi, _, _, htx, _⟩
  · simp
  all_goals rw [htx, wordSent_of_ne_pixel hi, List.append_nil]

/-- Settles O35: the one operation of the step sends a word only where it is a `PIXEL`, which needs `P_RENDER`. -/
theorem everyStepAppendsAtMostOneWord : Obligations.EveryStepAppendsAtMostOneWord := by
  intro s t h
  obtain ⟨i, rest, hrun, -⟩ := step_cases h
  have htx : t.tx = s.tx ++ wordSent i (s.setInputs rest) := exec_tx (s := s.setInputs rest) hrun
  by_cases hi : i = .pixel
  · subst hi
    have hp : s.phase = .render := (exec_pixel_inv hrun).1
    exact .inr ⟨hp, by simpa using htx⟩
  · rw [wordSent_of_ne_pixel hi, List.append_nil] at htx
    exact .inl htx

/-! ## The stream since reset -/

theorem exec_idxLegal {i : Instr} {s t : State} (hs : IdxLegal s) (h : exec i s = .next t) : IdxLegal t := by
  have of_zero : t.idx = 0#5 → IdxLegal t := fun hidx => ⟨by simp [hidx], fun _ => hidx⟩
  rcases exec_sweep_cases h with ⟨_, _, hk, rfl⟩ | ⟨_, _, hidx, _⟩ | ⟨_, hidx, _⟩ | ⟨_, hphase, hidx, _⟩
  · exact idxLegal_advanceSweep hk
  · exact of_zero hidx
  · exact of_zero hidx
  · rw [IdxLegal, hphase, hidx]
    exact hs

theorem length_txSinceReset (s : State) : s.txSinceReset.length = s.tx.length - s.txMark := List.length_drop

theorem streamFramed_of_eq {s t : State} (hidx : t.idx = s.idx) (htx : t.tx = s.tx) (hmark : t.txMark = s.txMark)
    (hs : StreamFramed s) : StreamFramed t := by
  rw [StreamFramed, State.txSinceReset, hidx, htx, hmark]
  exact hs

theorem advanceSweep_idx_toNat {s : State} (hk : s.idx.toNat < 25) : s.advanceSweep.idx.toNat = (s.idx.toNat + 1) % 25 := by
  rcases advanceSweep_cases s with ⟨hlast, e⟩ | ⟨hmore, e⟩ <;> rw [e, setPc_idx]
  · rw [hlast]
    rfl
  · have next : (s.idx + 1#5).toNat = s.idx.toNat + 1 := by bv_omega
    have fits : s.idx.toNat + 1 < 25 := by bv_omega
    rw [next, Nat.mod_eq_of_lt fits]

@[simp] theorem advanceSweep_txMark (s : State) : s.advanceSweep.txMark = s.txMark := by
  rcases advanceSweep_cases s with ⟨_, e⟩ | ⟨_, e⟩ <;> rw [e] <;> rfl

/-- One word more, and `idx` one further modulo 25. -/
theorem streamFramed_pixel {s : State} (hk : s.idx.toNat < 25) (hs : StreamFramed s) (w : Color24) :
    StreamFramed (s.emit w).advanceSweep := by
  obtain ⟨hmark, hlength⟩ := hs
  have hidx : (s.emit w).advanceSweep.idx.toNat = (s.idx.toNat + 1) % 25 := advanceSweep_idx_toNat (s := s.emit w) hk
  rw [length_txSinceReset] at hlength
  rw [StreamFramed, length_txSinceReset, hidx]
  simp only [advanceSweep_tx, advanceSweep_txMark, emit_tx, emit_txMark, List.length_append, List.length_singleton]
  omega

/-- Outside a sweep `idx` is 0 already, so that putting it there changes nothing; and after `RESET` nothing has been sent. -/
theorem exec_streamFramed {i : Instr} {s t : State} (hidx : IdxLegal s) (hs : StreamFramed s) (h : exec i s = .next t) :
    StreamFramed t := by
  rcases exec_sweep_cases h with
    ⟨_, _, hk, rfl⟩ | ⟨_, hp, hzero, htx, hmark⟩ | ⟨_, hzero, htx, hmark⟩ | ⟨_, _, hsame, htx, hmark⟩
  · exact streamFramed_pixel hk hs _
  · exact streamFramed_of_eq (hzero.trans (hidx.2 hp).symm) htx hmark hs
  · rw [StreamFramed, length_txSinceReset, hzero, htx, hmark, Nat.sub_self]
    exact ⟨le_rfl, rfl⟩
  · exact streamFramed_of_eq hsame htx hmark hs

theorem frameWord_two_colours (c : Config) (en : Bool) (buf : Mask25) (k : Nat) :
    frameWord c en buf k = c.colorActive ∨ frameWord c en buf k = colorOff := by
  unfold frameWord
  split
  · exact .inl rfl
  · exact .inr rfl

theorem wordSent_two_colours {i : Instr} {s : State} {w : Color24} (hw : w ∈ wordSent i s) :
    w = s.cfg.colorActive ∨ w = colorOff := by
  by_cases hi : i = .pixel
  · subst hi
    rw [wordSent_pixel, List.mem_singleton] at hw
    exact hw ▸ frameWord_two_colours _ _ _ _
  · rw [wordSent_of_ne_pixel hi] at hw
    cases hw

theorem exec_twoColours {i : Instr} {s t : State} (hs : TwoColours s) (h : exec i s = .next t) : TwoColours t := by
  intro w hw
  rw [exec_tx h, List.mem_append] at hw
  rw [exec_cfg h]
  exact hw.elim (hs w) wordSent_two_colours

/-- Settles O33: every operation keeps the three together, and none of them reads the environment's list. -/
theorem everyStepKeepsStreamFramed : Obligations.EveryStepKeepsStreamFramed :=
  fun _ _ hidx hframed hcolours =>
    step_preserves (P := fun u => IdxLegal u ∧ StreamFramed u ∧ TwoColours u) (fun _ _ hu => hu)
      (fun _ _ _ ⟨hi, hf, hc⟩ h => ⟨exec_idxLegal hi h, exec_streamFramed hi hf h, exec_twoColours hc h⟩)
      ⟨hidx, hframed, hcolours⟩

/-! ## A disabled display -/

/-- Settles O41: by induction on the trace, whose first operation sends at most one word, and that one off. -/
theorem disabledDisplaySendsOnlyOff : Obligations.DisabledDisplaySendsOnlyOff := by
  intro s t ops hrun hdark
  induction ops generalizing s with
  | nil =>
    cases hrun
    simp
  | cons i rest ih =>
    obtain ⟨u, hexec, hrest⟩ := runOps_cons_next hrun
    have htail : t.tx = u.tx ++ List.replicate (rest.count .pixel) colorOff :=
      ih u hrest fun before after v hsplit hv =>
        hdark (i :: before) after v (by rw [hsplit, List.cons_append]) ((runOps_cons_of_next hexec before).trans hv)
    rw [htail, exec_tx hexec, List.append_assoc]
    by_cases hi : i = .pixel
    · subst hi
      have hen : s.en = false := hdark [] rest s rfl rfl
      rw [wordSent_pixel, hen, frameWord_disabled, List.count_cons_self, List.replicate_succ, List.singleton_append]
    · rw [wordSent_of_ne_pixel hi, List.nil_append, List.count_cons_of_ne hi]

/-! ## The course of a sweep -/

/-- A sweep of which `k` words have been sent: the sequencer stands at cell `k`, or has left the sweep after cell 24. -/
def AtCell (k : Nat) (s : State) : Prop :=
  (k < 25 ∧ s.phase = .render ∧ s.idx.toNat = k) ∨ (k = 25 ∧ s.phase = .sleep ∧ s.idx = 0#5)

theorem atCell_zero {s : State} (hp : s.phase = .render) (hk : s.idx = 0#5) : AtCell 0 s :=
  .inl ⟨by decide, hp, by rw [hk]; rfl⟩

theorem atCell_within {k : Nat} {s : State} (hs : AtCell k s) (hk : k < 25) : s.phase = .render ∧ s.idx.toNat = k := by
  rcases hs with ⟨_, h⟩ | ⟨hend, _⟩
  · exact h
  · omega

theorem atCell_end {s : State} (hs : AtCell 25 s) : s.phase = .sleep ∧ s.idx = 0#5 := by
  rcases hs with ⟨hk, _⟩ | ⟨_, h⟩
  · omega
  · exact h

theorem atCell_of_sameSweep {k : Nat} {s t : State} (hsame : SameSweep s t) (hs : AtCell k s) : AtCell k t := by
  obtain ⟨hphase, hidx, _⟩ := hsame
  rw [AtCell, hphase, hidx]
  exact hs

/-- `PIXEL` sends the word of the cell the sweep is at, and goes on to the next. -/
theorem exec_pixel_atCell {k : Nat} {s : State} (hs : AtCell k s) (hk : k < 25) :
    ∃ t, exec .pixel s = .next t ∧ AtCell (k + 1) t ∧
      t = { s with tx := s.tx ++ [frameWord s.cfg s.en s.buf k], phase := t.phase, idx := t.idx } := by
  obtain ⟨hp, rfl⟩ := atCell_within hs hk
  rcases Nat.lt_or_ge s.idx.toNat 24 with hmore | hlast
  · have next : (s.idx + 1#5).toNat = s.idx.toNat + 1 := by bv_omega
    exact ⟨_, exec_pixel_of_earlier_cell_eq hp hmore, .inl ⟨by omega, hp, next⟩, rfl⟩
  · have last : s.idx.toNat = 24 := by omega
    refine ⟨_, exec_pixel_of_last_cell_eq hp last, .inr ⟨by omega, rfl, rfl⟩, ?_⟩
    rw [last]

theorem mainLoopOps_cons_of_mainLoop {i : Instr} (hi : i.opClass = .mainLoop) (rest : List Instr) :
    mainLoopOps (i :: rest) = i :: mainLoopOps rest := List.filter_cons_of_pos (by simpa using hi)

theorem mainLoopOps_cons_of_not_mainLoop {i : Instr} (hi : i.opClass ≠ .mainLoop) (rest : List Instr) :
    mainLoopOps (i :: rest) = mainLoopOps rest := List.filter_cons_of_neg (by simpa using hi)

theorem mainLoopOps_append (l₁ l₂ : List Instr) : mainLoopOps (l₁ ++ l₂) = mainLoopOps l₁ ++ mainLoopOps l₂ :=
  List.filter_append ..

theorem count_pixel_mainLoopOps (ops : List Instr) : (mainLoopOps ops).count .pixel = ops.count .pixel :=
  List.count_filter rfl

/-- In any interleaving without `RESET` the `PIXEL`s of a sweep go on, and they alone move it (R79). -/
theorem runOps_atCell {k n : Nat} {ops : List Instr} {s : State} (hs : AtCell k s) (hr : .reset ∉ ops)
    (hops : mainLoopOps ops = List.replicate n .pixel) (hn : k + n ≤ 25) :
    ∃ t, runOps ops s = .next t ∧ AtCell (k + n) t := by
  induction ops generalizing s k n with
  | nil =>
    obtain rfl : n = 0 := by simpa [mainLoopOps] using hops
    exact ⟨s, rfl, hs⟩
  | cons i rest ih =>
    obtain ⟨hi, hrest⟩ : i ≠ .reset ∧ .reset ∉ rest := by simpa [eq_comm] using hr
    by_cases hm : i.opClass = .mainLoop
    · rw [mainLoopOps_cons_of_mainLoop hm] at hops
      obtain _ | n := n
      · cases hops
      obtain ⟨rfl, htail⟩ := List.cons.inj hops
      obtain ⟨u, hexec, hu, -⟩ := exec_pixel_atCell hs (by omega)
      rw [runOps_cons_of_next hexec, show k + (n + 1) = k + 1 + n by omega]
      exact ih hu hrest htail (by omega)
    · obtain ⟨u, hexec⟩ := exec_of_not_mainLoop hm s
      rw [mainLoopOps_cons_of_not_mainLoop hm] at hops
      rw [runOps_cons_of_next hexec]
      exact ih (atCell_of_sameSweep (exec_sameSweep hm hi hexec) hs) hrest hops hn

/-! ## What a trace sends -/

/-- The words the operations of a trace send, up to the first fault or refusal. -/
def wordsSent : List Instr → State → List Color24
  | [], _ => []
  | i :: rest, s =>
    match exec i s with
    | .next t => wordSent i s ++ wordsSent rest t
    | .fault _ => []
    | .refused _ => []

theorem wordsSent_cons_of_next {i : Instr} {s t : State} (h : exec i s = .next t) (rest : List Instr) :
    wordsSent (i :: rest) s = wordSent i s ++ wordsSent rest t := by
  simp only [wordsSent, h]

theorem runOps_tx {ops : List Instr} {s t : State} (h : runOps ops s = .next t) : t.tx = s.tx ++ wordsSent ops s := by
  induction ops generalizing s with
  | nil =>
    cases h
    exact (List.append_nil _).symm
  | cons i rest ih =>
    obtain ⟨u, hexec, hrest⟩ := runOps_cons_next h
    rw [ih hrest, exec_tx hexec, wordsSent_cons_of_next hexec, List.append_assoc]

theorem length_wordSent (i : Instr) (s : State) : (wordSent i s).length = [i].count .pixel := by
  by_cases hi : i = .pixel
  · subst hi
    rfl
  · rw [wordSent_of_ne_pixel hi, List.count_cons_of_ne hi]
    rfl

theorem length_wordsSent {ops : List Instr} {s t : State} (h : runOps ops s = .next t) :
    (wordsSent ops s).length = ops.count .pixel := by
  induction ops generalizing s with
  | nil => rfl
  | cons i rest ih =>
    obtain ⟨u, hexec, hrest⟩ := runOps_cons_next h
    rw [wordsSent_cons_of_next hexec, List.length_append, length_wordSent, ih hrest, ← List.count_append,
      List.singleton_append]

theorem wordsSent_append {before : List Instr} {s u : State} (h : runOps before s = .next u) (after : List Instr) :
    wordsSent (before ++ after) s = wordsSent before s ++ wordsSent after u := by
  induction before generalizing s with
  | nil =>
    cases h
    rfl
  | cons i rest ih =>
    obtain ⟨v, hexec, hrest⟩ := runOps_cons_next h
    rw [List.cons_append, wordsSent_cons_of_next hexec, wordsSent_cons_of_next hexec, ih hrest, List.append_assoc]

/-- The word of a trace's `PIXEL` stands behind those of the `PIXEL`s before it. -/
theorem getElem?_wordsSent {before after : List Instr} {s u v : State} (hbefore : runOps before s = .next u)
    (hpixel : exec .pixel u = .next v) :
    (wordsSent (before ++ .pixel :: after) s)[before.count .pixel]? = some (frameWord u.cfg u.en u.buf u.idx.toNat) := by
  rw [wordsSent_append hbefore, wordsSent_cons_of_next hpixel, ← length_wordsSent hbefore,
    List.getElem?_append_right le_rfl, Nat.sub_self, wordSent_pixel]
  rfl

/-! ## Sweeps with button operations in them -/

/-- The main-loop operations before a `PIXEL` of a sweep are `PIXEL`s, fewer than the sweep has. -/
theorem mainLoopOps_before_pixel {before after : List Instr} {n : Nat}
    (hops : mainLoopOps (before ++ .pixel :: after) = List.replicate n .pixel) :
    mainLoopOps before = List.replicate (before.count .pixel) .pixel ∧ before.count .pixel < n := by
  rw [mainLoopOps_append, mainLoopOps_cons_of_mainLoop rfl, List.append_eq_replicate_iff] at hops
  obtain ⟨hlength, hbefore, -⟩ := hops
  have hcount : (mainLoopOps before).length = before.count .pixel := by
    rw [← count_pixel_mainLoopOps, hbefore, List.count_replicate_self, List.length_replicate]
  rw [hcount] at hlength hbefore
  exact ⟨hbefore, by rw [← hlength, List.length_cons]; omega⟩

/-- Before the `PIXEL` of cell `k` the sweep is at cell `k`, whatever fell between the words. -/
theorem atCell_before_pixel {before after : List Instr} {s u : State} (hs : AtCell 0 s) (hr : .reset ∉ before ++ .pixel :: after)
    (hops : mainLoopOps (before ++ .pixel :: after) = List.replicate 25 .pixel) (hu : runOps before s = .next u) :
    AtCell (before.count .pixel) u ∧ before.count .pixel < 25 := by
  obtain ⟨hbefore, hlt⟩ := mainLoopOps_before_pixel hops
  obtain ⟨u', hu', hat⟩ := runOps_atCell hs (fun hmem => hr (List.mem_append_left _ hmem)) hbefore (by omega)
  rw [hu] at hu'
  cases hu'
  rw [Nat.zero_add] at hat
  exact ⟨hat, hlt⟩

/-- Settles O40: the frame is what the trace sends, and its word `k` that of the `PIXEL` before which `k` words have been sent. -/
theorem tornSweepSendsCellByCell : Obligations.TornSweepSendsCellByCell := by
  intro s ops hp hidx hr hops
  have hstart : AtCell 0 s := atCell_zero hp hidx
  obtain ⟨t, hrun, hend⟩ := runOps_atCell hstart hr hops (by decide)
  obtain ⟨htp, htidx⟩ := atCell_end hend
  have hcount : ops.count .pixel = 25 := by rw [← count_pixel_mainLoopOps, hops, List.count_replicate_self]
  refine ⟨t, wordsSent ops s, hrun, htp, htidx, runOps_tx hrun, (length_wordsSent hrun).trans hcount, ?_⟩
  rintro k before after u rfl rfl hu
  obtain ⟨hat, hlt⟩ := atCell_before_pixel hstart hr hops hu
  obtain ⟨v, hpixel, -⟩ := exec_pixel_atCell hat hlt
  rw [getElem?_wordsSent hu hpixel, (atCell_within hat hlt).2]

/-! ## Sweeps without button operations -/

/-- A part of a sweep in which only time passes: the words of its cells in the one display state, and nothing but `now` besides. -/
theorem runOps_undisturbed {k : Nat} {ops : List Instr} {s : State} (hs : AtCell k s)
    (hops : ∀ i ∈ ops, i = .pixel ∨ i = .tick) (hn : k + ops.count .pixel ≤ 25) :
    ∃ t, runOps ops s = .next t ∧ AtCell (k + ops.count .pixel) t ∧
      t = { s with
        tx := s.tx ++ (List.range' k (ops.count .pixel)).map (frameWord s.cfg s.en s.buf)
        phase := t.phase, idx := t.idx, now := t.now } := by
  induction ops generalizing s k with
  | nil => exact ⟨s, rfl, hs, by simp⟩
  | cons i rest ih =>
    obtain ⟨hi, hrest⟩ := List.forall_mem_cons.mp hops
    rcases hi with rfl | rfl
    · rw [List.count_cons_self] at hn ⊢
      obtain ⟨u, hexec, hu, hframe⟩ := exec_pixel_atCell hs (by omega)
      obtain ⟨t, hrun, ht, htframe⟩ := ih hu hrest (by omega)
      refine ⟨t, (runOps_cons_of_next hexec rest).trans hrun, by rwa [Nat.add_assoc, Nat.add_comm 1] at ht, ?_⟩
      rw [hframe] at htframe
      simpa [List.range'_succ] using htframe
    · rw [List.count_cons_of_ne (by decide)] at hn ⊢
      obtain ⟨t, hrun, ht, htframe⟩ := ih (s := s.setNow ((s.now + 1) % 2 ^ s.cfg.tw)) hs hrest hn
      exact ⟨t, (runOps_cons_of_next rfl rest).trans hrun, ht, htframe⟩

/-- By (I2) an enabled display's buffer is the digit's pattern, and a disabled display's frame is dark (I6). -/
theorem frameOf_eq_pattern {s : State} (h : StateInv s) :
    frameOf s.cfg s.en s.buf = frameOf s.cfg s.en (maskFor s.cfg (Fin.ofNat 10 s.digit.toNat)) := by
  obtain ⟨_, hshows, _⟩ := h
  cases hen : s.en with
  | true => rw [hshows hen]
  | false => simp only [frameOf, funext (frameWord_disabled s.cfg _)]

/-- Settles O39: a whole sweep in which only time passes is the part of one from cell 0 to its end. -/
theorem undisturbedSweepSendsFrame : Obligations.UndisturbedSweepSendsFrame := by
  intro s ops hp hidx hops hcount
  obtain ⟨t, hrun, hend, hframe⟩ := runOps_undisturbed (atCell_zero hp hidx) hops (by omega)
  rw [hcount] at hend hframe
  obtain ⟨htp, htidx⟩ := atCell_end hend
  refine ⟨t.now, ?_, frameOf_eq_pattern⟩
  rw [hrun, frameOf, List.range_eq_range', ← htp, ← htidx]
  exact congrArg _ hframe

end Sys2Proof.Machine
end

section
/-!
PROOFS of 42_status_blinker.md: the poll of the indicator (R85), what leaves the indicator alone (R86), and how far apart two toggles
are (R87).
-/

namespace Sys2Proof.Machine

/-! ## `BLINK` -/

theorem blinkDue_iff (s : State) : s.blinkDue = true ↔ s.cfg.tBlink ≤ s.elapsed s.lastTog := by
  simp [State.blinkDue]

theorem polled_of_due {s : State} (hdue : s.cfg.tBlink ≤ s.elapsed s.lastTog) : s.polled = s.toggleIndicator :=
  if_pos ((blinkDue_iff s).mpr hdue)

theorem polled_of_not_due {s : State} (hearly : s.elapsed s.lastTog < s.cfg.tBlink) : s.polled = s :=
  if_neg (mt (blinkDue_iff s).mp (Nat.not_le.mpr hearly))

theorem statusLevel_not (c : Config) (ind : Bool) :
    statusLevel c (!ind) = if ind = true then !c.statusOnLevel else c.statusOnLevel := by
  cases ind <;> rfl

/-- The toggle writes the indicator, its output and the time of the toggle, and nothing else. -/
theorem toggleIndicator_eq (s : State) :
    s.toggleIndicator = { s with
      ind := !s.ind, statusOut := (if s.ind = true then !s.cfg.statusOnLevel else s.cfg.statusOnLevel), lastTog := s.now } := by
  rw [← statusLevel_not]
  rfl

theorem exec_blink_of_due {s : State} (hp : s.phase = .blink) (hdue : s.cfg.tBlink ≤ s.elapsed s.lastTog) :
    exec .blink s = .next (s.toggleIndicator.setPc .render 0#5) := by
  rw [exec_blink_of_phase hp, polled_of_due hdue]

theorem exec_blink_of_not_due {s : State} (hp : s.phase = .blink) (hearly : s.elapsed s.lastTog < s.cfg.tBlink) :
    exec .blink s = .next (s.setPc .render 0#5) := by
  rw [exec_blink_of_phase hp, polled_of_not_due hearly]

/-- Settles O8: the poll is due or not, or the sequencer selects no `BLINK`. -/
theorem blinkTogglesExactlyWhenDue : Obligations.BlinkTogglesExactlyWhenDue := by
  refine fun s => ⟨fun hp hdue => ?_, exec_blink_of_not_due, exec_blink_of_not_phase⟩
  rw [exec_blink_of_due hp hdue, toggleIndicator_eq]
  rfl

/-! ## What leaves the indicator alone -/

/-- The indicator, its output and the time of the latest toggle are the same. -/
abbrev SameIndicator (s t : State) : Prop := t.ind = s.ind ∧ t.statusOut = s.statusOut ∧ t.lastTog = s.lastTog

theorem SameIndicator.trans {s t u : State} (hst : SameIndicator s t) (htu : SameIndicator t u) : SameIndicator s u := by
  obtain ⟨hind, hout, htog⟩ := hst
  obtain ⟨hind', hout', htog'⟩ := htu
  exact ⟨hind'.trans hind, hout'.trans hout, htog'.trans htog⟩

theorem sameIndicator_advanceSweep (s : State) : SameIndicator s s.advanceSweep := by
  rcases advanceSweep_cases s with ⟨_, e⟩ | ⟨_, e⟩ <;> rw [e] <;> exact ⟨rfl, rfl, rfl⟩

/-- Apart from `RESET`, only a `BLINK` that is due writes the indicator (R86). -/
theorem exec_sameIndicator {i : Instr} {s t : State} (hi : i ≠ .reset)
    (hearly : i = .blink → s.elapsed s.lastTog < s.cfg.tBlink) (h : exec i s = .next t) : SameIndicator s t := by
  by_cases hm : i.opClass = .mainLoop
  · rcases mainLoop_cases hm h with ⟨rfl, hp, _⟩ | ⟨_, _, _, rfl⟩ | ⟨_, _, rfl⟩ | ⟨_, _, _, rfl⟩
    · rw [exec_blink_of_not_due hp (hearly rfl)] at h
      cases h
      exact ⟨rfl, rfl, rfl⟩
    · exact sameIndicator_advanceSweep (s.emit _)
    · exact ⟨rfl, rfl, rfl⟩
    · exact ⟨rfl, rfl, rfl⟩
  · rcases nonMainLoop_cases hm h with ⟨b, _, rfl⟩ | ⟨_, rfl⟩ | ⟨lv, _, rfl⟩ | ⟨_, rfl⟩ | ⟨hreset, _⟩
    · simp [SameIndicator]
    · split <;> exact ⟨rfl, rfl, rfl⟩
    · simp [SameIndicator]
    · exact ⟨rfl, rfl, rfl⟩
    · exact absurd hreset hi

/-! ## The time between two toggles -/

/-- Fewer than `T_BLINK` ms after a toggle, with its time still recorded, a poll is not due. -/
theorem runOps_not_due {ops : List Instr} {s t : State} (hwidth : s.cfg.tBlink < 2 ^ s.cfg.tw) (hr : .reset ∉ ops)
    (hticks : ticksIn ops < s.cfg.tBlink) (h : runOps ops s = .next t) (htog : t.lastTog = s.now) :
    t.elapsed t.lastTog < t.cfg.tBlink := by
  rw [htog, runOps_elapsed hr h (hticks.trans hwidth), (runOps_now hr h).1]
  exact hticks

/-- From the moment of a toggle on, the indicator stays for as long as fewer than `T_BLINK` ms pass: by induction from the end of the
trace, since before each operation the ones before it have kept the time of the toggle, so that a poll is not due. -/
theorem runOps_sameIndicator_of_early {ops : List Instr} {s t : State} (hs : s.lastTog = s.now)
    (hwidth : s.cfg.tBlink < 2 ^ s.cfg.tw) (hr : .reset ∉ ops) (hticks : ticksIn ops < s.cfg.tBlink)
    (h : runOps ops s = .next t) : SameIndicator s t := by
  induction ops using List.reverseRecOn generalizing t with
  | nil => cases h; exact ⟨rfl, rfl, rfl⟩
  | append_singleton ops i ih =>
    obtain ⟨u, hbefore, hlast⟩ := runOps_append_next h
    obtain ⟨_, hexec, hnil⟩ := runOps_cons_next hlast
    cases hnil
    simp only [List.mem_append, List.mem_singleton, not_or] at hr
    obtain ⟨hrbefore, hri⟩ := hr
    have hticksbefore : ticksIn ops < s.cfg.tBlink := by rw [ticksIn_append] at hticks; omega
    obtain ⟨hind, hout, htog⟩ := ih hrbefore hticksbefore hbefore
    have hearly : u.elapsed u.lastTog < u.cfg.tBlink :=
      runOps_not_due hwidth hrbefore hticksbefore hbefore (htog.trans hs)
    exact SameIndicator.trans ⟨hind, hout, htog⟩ (exec_sameIndicator (Ne.symm hri) (fun _ => hearly) hexec)

/-- Settles O46: the toggle leaves its time at `now`, and until `T_BLINK` ms have passed no further poll is due. -/
theorem togglesAreSpaced : Obligations.TogglesAreSpaced := by
  intro s s' u between hp hdue hblink _ hwidth hr hticks hrun
  rw [exec_blink_of_due hp hdue] at hblink
  cases hblink
  obtain ⟨hind, _, htog⟩ := runOps_sameIndicator_of_early (s := s.toggleIndicator.setPc .render 0#5) rfl hwidth hr hticks hrun
  exact ⟨hind, htog⟩

end Sys2Proof.Machine
end

section
/-!
PROOFS of 43_main_loop.md: the cycle of the main loop (R90) and what it leaves alone (R91), the sleep (R92, R93), time (R95), the
bound on an iteration's active part (R96, R97), and the block left to itself (R91, R93, R96; log 5).
-/

namespace Sys2Proof.Machine

/-! ## `SLEEP`, `WAKE` and `TICK` -/

theorem exec_tick (s : State) : exec .tick s = .next (s.setNow ((s.now + 1) % 2 ^ s.cfg.tw)) := rfl

/-- Settles O5: the write of `now` is all of `TICK`. -/
theorem tickAdvancesNowOnly : Obligations.TickAdvancesNowOnly := exec_tick

/-- Settles O6: the sequencer selects `SLEEP` or does not. -/
theorem sleepRecordsItsStart : Obligations.SleepRecordsItsStart :=
  fun _ => ⟨exec_sleep_of_phase, exec_sleep_of_not_phase⟩

/-- Settles O7: the guard holds, or fails in its time or in its phase. -/
theorem wakeEndsSleepOnceOver : Obligations.WakeEndsSleepOnceOver := fun _ =>
  ⟨exec_wake_of_over, fun hearly => exec_wake_of_not_over fun ⟨_, hover⟩ => absurd hover (Nat.not_le.mpr hearly),
    fun hp => exec_wake_of_not_over fun ⟨hwait, _⟩ => hp hwait⟩

/-! ## What the main loop writes -/

/-- A main-loop operation writes the main context and the stream (R91). -/
theorem mainLoop_frame {i : Instr} {s t : State} (hi : i.opClass = .mainLoop) (h : exec i s = .next t) :
    t = { s with
      lastTog := t.lastTog, ind := t.ind, statusOut := t.statusOut, phase := t.phase, idx := t.idx,
      sleepStart := t.sleepStart, tx := t.tx } := by
  rcases mainLoop_cases hi h with ⟨_, _, rfl⟩ | ⟨_, _, _, rfl⟩ | ⟨_, _, rfl⟩ | ⟨_, _, _, rfl⟩
  · split <;> rfl
  · rcases advanceSweep_cases (s.emit (frameWord s.cfg s.en s.buf s.idx.toNat)) with ⟨_, e⟩ | ⟨_, e⟩ <;> rw [e] <;> rfl
  · rfl
  · rfl

/-- Settles O27: the registers that the statement names are none of those that a main-loop operation writes. -/
theorem mainLoopLeavesInterruptContext : Obligations.MainLoopLeavesInterruptContext := by
  intro i s t hi h
  rw [mainLoop_frame hi h]
  exact ⟨⟨rfl, rfl, rfl, rfl, rfl, rfl, rfl⟩, rfl, rfl, rfl, rfl, rfl, rfl⟩

/-- No operation takes anything off the environment's list: only a step does. -/
theorem exec_inputs {i : Instr} {s t : State} (h : exec i s = .next t) : t.inputs = s.inputs := by
  by_cases hm : i.opClass = .mainLoop
  · rw [mainLoop_frame hm h]
  rcases nonMainLoop_cases hm h with ⟨b, _, rfl⟩ | ⟨_, rfl⟩ | ⟨lv, _, rfl⟩ | ⟨_, rfl⟩ | ⟨_, hr⟩
  · simp
  · split <;> rfl
  · simp
  · rfl
  · rw [execReset_eq] at hr; cases hr; rfl

/-! ## The cycle -/

/-- A row of the table of R90 for `PIXEL`: the next cell, or from the last one on to the sleep. -/
theorem exec_pixel_sequencer {s t : State} (h : exec .pixel s = .next t) :
    s.phase = .render ∧
      ((s.idx.toNat < 24 ∧ t.phase = .render ∧ t.idx.toNat = s.idx.toNat + 1) ∨
        (s.idx.toNat = 24 ∧ t.phase = .sleep ∧ t.idx = 0#5)) := by
  obtain ⟨hp, hk, -⟩ := exec_pixel_inv h
  refine ⟨hp, ?_⟩
  rcases Nat.lt_or_ge s.idx.toNat 24 with hmore | hlast
  · rw [exec_pixel_of_earlier_cell_eq hp hmore] at h
    cases h
    have next : (s.idx + 1#5).toNat = s.idx.toNat + 1 := by bv_omega
    exact .inl ⟨hmore, hp, next⟩
  · have last : s.idx.toNat = 24 := by omega
    rw [exec_pixel_of_last_cell_eq hp last] at h
    cases h
    exact .inr ⟨last, rfl, rfl⟩

/-- Settles O45: of the main loop, each operation is its row of the table; the others leave the sequencer. -/
theorem sequencerFollowsCycle : Obligations.SequencerFollowsCycle := by
  intro i s t hr h
  by_cases hm : i.opClass = .mainLoop
  · right
    rcases mainLoop_cases hm h with ⟨rfl, hp, rfl⟩ | ⟨rfl, _⟩ | ⟨rfl, hp, rfl⟩ | ⟨rfl, hp, hover, rfl⟩
    · exact .inl ⟨rfl, hp, rfl, rfl⟩
    · obtain ⟨hp, hearlier | hlast⟩ := exec_pixel_sequencer h
      · exact .inr (.inl ⟨rfl, hp, hearlier⟩)
      · exact .inr (.inr (.inl ⟨rfl, hp, hlast⟩))
    · exact .inr (.inr (.inr (.inl ⟨rfl, hp, rfl, rfl⟩)))
    · exact .inr (.inr (.inr (.inr ⟨rfl, hp, hover, rfl, rfl⟩)))
  · obtain ⟨hphase, hidx, _⟩ := exec_sameSweep hm hr h
    exact .inl ⟨hm, hphase, hidx⟩

/-! ## One iteration, whatever falls between its operations -/

/-- The main-loop operations of a trace begin with its first one, before which there is none. -/
theorem mainLoopOps_eq_cons {ops l : List Instr} {i : Instr} (h : mainLoopOps ops = i :: l) :
    ∃ before after, ops = before ++ i :: after ∧ (∀ j ∈ before, j.opClass ≠ .mainLoop) ∧ mainLoopOps after = l := by
  obtain ⟨before, after, hsplit, hbefore, -, hafter⟩ := List.filter_eq_cons_iff.mp h
  exact ⟨before, after, hsplit, fun j hj => by simpa using hbefore j hj, hafter⟩

/-- Button operations and time alone go on from every state, and leave the sequencer. -/
theorem runOps_of_no_mainLoop {ops : List Instr} (hops : ∀ i ∈ ops, i.opClass ≠ .mainLoop) (hr : .reset ∉ ops) (s : State) :
    ∃ t, runOps ops s = .next t ∧ t.phase = s.phase ∧ t.idx = s.idx := by
  induction ops generalizing s with
  | nil => exact ⟨s, rfl, rfl, rfl⟩
  | cons i rest ih =>
    obtain ⟨hi, hrest⟩ := List.forall_mem_cons.mp hops
    obtain ⟨hne, hrrest⟩ : i ≠ .reset ∧ .reset ∉ rest := by simpa [eq_comm] using hr
    obtain ⟨u, hexec⟩ := exec_of_not_mainLoop hi s
    obtain ⟨hphase, hidx, _⟩ := exec_sameSweep hi hne hexec
    obtain ⟨t, hrun, htphase, htidx⟩ := ih hrest hrrest u
    exact ⟨t, (runOps_cons_of_next hexec rest).trans hrun, htphase.trans hphase, htidx.trans hidx⟩

/-- The poll and the sweep of an iteration go on in any interleaving, to the end of the sweep (R90). -/
theorem runOps_iteration {s : State} {ops : List Instr} (hp : s.phase = .blink) (hr : .reset ∉ ops)
    (hops : mainLoopOps ops = [.blink] ++ List.replicate 25 .pixel) :
    ∃ t, runOps ops s = .next t ∧ t.phase = .sleep := by
  obtain ⟨before, after, rfl, hbefore, hafter⟩ := mainLoopOps_eq_cons hops
  simp only [List.mem_append, List.mem_cons, not_or] at hr
  obtain ⟨hrbefore, -, hrafter⟩ := hr
  obtain ⟨u, hu, huphase, -⟩ := runOps_of_no_mainLoop hbefore hrbefore s
  have hstart : AtCell 0 (u.polled.setPc .render 0#5) := atCell_zero rfl rfl
  obtain ⟨t, hrun, hend⟩ := runOps_atCell hstart hrafter hafter (by decide)
  refine ⟨t, ?_, (atCell_end hend).1⟩
  rw [runOps_append_of_next hu, runOps_cons_of_next (exec_blink_of_phase (huphase.trans hp)), hrun]

/-- Settles O42: the sweep ends in `P_SLEEP`, each of its `PIXEL`s has sent a word, and `SLEEP` records the time then. -/
theorem iterationReachesSleepInAnyInterleaving : Obligations.IterationReachesSleepInAnyInterleaving := by
  intro s ops hp hr hops
  obtain ⟨u, hrun, huphase⟩ := runOps_iteration hp hr hops
  have hcount : ops.count .pixel = 25 := by rw [← count_pixel_mainLoopOps, hops]; decide
  have hlength : u.tx.length = s.tx.length + 25 := by
    rw [runOps_tx hrun, List.length_append, length_wordsSent hrun, hcount]
  refine ⟨(u.setSleepStart u.now).setPc .wait 0#5, ?_, rfl, rfl, hlength, rfl, (runOps_now hr hrun).2⟩
  rw [runOps_append_of_next hrun, runOps_cons_of_next (exec_sleep_of_phase huphase), runOps]

/-! ## The bound on the active part -/

theorem respectsActiveMax_eq {c : Config} {bound : Nat} (h : c.tActiveMax = some bound) (ops : List Instr) :
    respectsActiveMax c ops = activeTicksWithin bound true 0 ops := by
  simp only [respectsActiveMax, h]

/-- The rest of a trace that keeps to the bound keeps to it, from where the count then stands. -/
theorem activeTicksWithin_tail {bound n : Nat} {a : Bool} {i : Instr} {rest : List Instr}
    (h : activeTicksWithin bound a n (i :: rest) = true) : ∃ a' n', activeTicksWithin bound a' n' rest = true := by
  cases i with
  | tick =>
    cases a with
    | true =>
      obtain ⟨_, hrest⟩ := (Bool.and_eq_true _ _).mp h
      exact ⟨_, _, hrest⟩
    | false => exact ⟨_, _, h⟩
  | _ => exact ⟨_, _, h⟩

theorem activeTicksWithin_append_right {bound n : Nat} {a : Bool} {before after : List Instr}
    (h : activeTicksWithin bound a n (before ++ after) = true) : ∃ a' n', activeTicksWithin bound a' n' after = true := by
  induction before generalizing a n with
  | nil => exact ⟨a, n, h⟩
  | cons i rest ih =>
    obtain ⟨_, _, hrest⟩ := activeTicksWithin_tail h
    exact ih hrest

/-- A `WAKE` or a `RESET` begins a stretch, with nothing counted yet. -/
theorem activeTicksWithin_start {bound n : Nat} {a : Bool} {start : Instr} {rest : List Instr}
    (hstart : start = .wake ∨ start = .reset) (h : activeTicksWithin bound a n (start :: rest) = true) :
    activeTicksWithin bound true 0 rest = true := by
  rcases hstart with rfl | rfl <;> exact h

/-- Within a stretch only `TICK`s count. -/
theorem activeTicksWithin_uncounted {bound n : Nat} {i : Instr} (htick : i ≠ .tick) (hsleep : i ≠ .sleep) (hwake : i ≠ .wake)
    (hreset : i ≠ .reset) (rest : List Instr) :
    activeTicksWithin bound true n (i :: rest) = activeTicksWithin bound true n rest := by
  cases i with
  | tick => exact absurd rfl htick
  | sleep => exact absurd rfl hsleep
  | wake => exact absurd rfl hwake
  | reset => exact absurd rfl hreset
  | edgeInc | edgeDec | edgeTog | edgeUnk | blink | pixel | sample lv => rfl

theorem ticksIn_cons_tick (rest : List Instr) : ticksIn (.tick :: rest) = ticksIn rest + 1 := List.count_cons_self

theorem ticksIn_cons_of_ne {i : Instr} (hi : i ≠ .tick) (rest : List Instr) : ticksIn (i :: rest) = ticksIn rest :=
  List.count_cons_of_ne hi

/-- A stretch that keeps to the bound has no more `TICK`s than the bound leaves. -/
theorem ticksIn_le_of_activeTicksWithin {bound n : Nat} {active after : List Instr} (hsleep : .sleep ∉ active)
    (hwake : .wake ∉ active) (hreset : .reset ∉ active) (hn : n ≤ bound)
    (h : activeTicksWithin bound true n (active ++ after) = true) : n + ticksIn active ≤ bound := by
  induction active generalizing n with
  | nil => exact hn
  | cons i rest ih =>
    simp only [List.mem_cons, not_or] at hsleep hwake hreset
    obtain ⟨hisleep, hsleep⟩ := hsleep
    obtain ⟨hiwake, hwake⟩ := hwake
    obtain ⟨hireset, hreset⟩ := hreset
    by_cases ht : i = .tick
    · subst ht
      obtain ⟨hcounted, hrest⟩ := (Bool.and_eq_true _ _).mp h
      have hle := ih hsleep hwake hreset (of_decide_eq_true hcounted) hrest
      rw [ticksIn_cons_tick]
      omega
    · rw [List.cons_append, activeTicksWithin_uncounted ht (Ne.symm hisleep) (Ne.symm hiwake) (Ne.symm hireset)] at h
      rw [ticksIn_cons_of_ne ht]
      exact ih hsleep hwake hreset hn h

theorem runOps_cfg {ops : List Instr} {s t : State} (h : runOps ops s = .next t) : t.cfg = s.cfg := by
  induction ops generalizing s with
  | nil => cases h; rfl
  | cons i rest ih =>
    obtain ⟨u, hexec, hrest⟩ := runOps_cons_next h
    exact (ih hrest).trans (exec_cfg hexec)

/-- The `SLEEP` that ends a trace without `RESET` records the time of its start and the trace's `TICK`s. -/
theorem runOps_sleep_sleepStart {ops : List Instr} {s t : State} (hr : .reset ∉ ops)
    (h : runOps (ops ++ [.sleep]) s = .next t) :
    t.sleepStart % 2 ^ s.cfg.tw = (s.now + ticksIn ops) % 2 ^ s.cfg.tw := by
  obtain ⟨u, hrun, hlast⟩ := runOps_append_next h
  obtain ⟨v, hexec, hnil⟩ := runOps_cons_next hlast
  cases hnil
  rcases mainLoop_cases rfl hexec with ⟨hi, _⟩ | ⟨hi, _⟩ | ⟨_, _, rfl⟩ | ⟨hi, _⟩
  · cases hi
  · cases hi
  · exact (runOps_now hr hrun).2
  · cases hi

/-- An iteration whose active part keeps to the bound sleeps within the bound of its start. -/
theorem sleepStart_within_bound {bound : Nat} {active : List Instr} {s t : State} (hsleep : .sleep ∉ active)
    (hwake : .wake ∉ active) (hreset : .reset ∉ active) (h : activeTicksWithin bound true 0 (active ++ [.sleep]) = true)
    (hrun : runOps (active ++ [.sleep]) s = .next t) :
    ∃ a, a ≤ bound ∧ t.sleepStart % 2 ^ s.cfg.tw = (s.now + a) % 2 ^ s.cfg.tw := by
  have hticks := ticksIn_le_of_activeTicksWithin hsleep hwake hreset (Nat.zero_le bound) h
  exact ⟨ticksIn active, by omega, runOps_sleep_sleepStart hreset hrun⟩

/-- Settles O44: the trace from the start of an iteration keeps to the bound with nothing counted, in the reset state as after a
`WAKE` or a `RESET`. -/
theorem activeMaxBoundsEveryIteration : Obligations.ActiveMaxBoundsEveryIteration := by
  intro c bound active hbound hsleep hwake hreset
  refine ⟨fun t hmax hrun => ?_, fun before start u t hstart hmax hbefore hrun => ?_⟩
  · rw [respectsActiveMax_eq hbound] at hmax
    obtain ⟨a, ha, hrecord⟩ := sleepStart_within_bound hsleep hwake hreset hmax hrun
    rw [show (State.resetFor c).now = 0 from rfl, Nat.zero_add] at hrecord
    exact ⟨a, ha, hrecord⟩
  · rw [respectsActiveMax_eq hbound, List.append_assoc, List.append_assoc] at hmax
    obtain ⟨_, _, hfrom⟩ := activeTicksWithin_append_right hmax
    have hcfg : u.cfg = c := runOps_cfg hbefore
    rw [← hcfg]
    exact sleepStart_within_bound hsleep hwake hreset (activeTicksWithin_start hstart hfrom) hrun

/-! ## The block's own operation -/

theorem enabled_wake_iff (s : State) : enabled .wake s = true ↔ s.phase = .wait ∧ s.cfg.tSleep ≤ s.elapsed s.sleepStart := by
  rw [enabled, Bool.and_eq_true, decide_eq_true_iff, sleepOver_iff]

/-- The sequencer enables one main-loop operation at most. -/
theorem candidate_eq_of_enabled {i : Instr} {s : State} (hi : i.opClass = .mainLoop) (h : enabled i s = true) :
    s.candidate = i := by
  cases i with
  | blink => rw [State.candidate, show s.phase = .blink from of_decide_eq_true h]
  | pixel => rw [State.candidate, show s.phase = .render from of_decide_eq_true h]
  | sleep => rw [State.candidate, show s.phase = .sleep from of_decide_eq_true h]
  | wake => rw [State.candidate, ((enabled_wake_iff s).mp h).1]
  | edgeInc | edgeDec | edgeTog | edgeUnk | tick | sample lv | reset => cases hi

/-- An enabled main-loop operation is what the block does by itself (log 5). -/
theorem ownOperation_of_enabled {i : Instr} {s : State} (hi : i.opClass = .mainLoop) (h : enabled i s = true) :
    s.ownOperation = i := by
  rw [State.ownOperation, candidate_eq_of_enabled hi h, if_pos h]

/-- While the sleep is not over the block lets time pass (log 5). -/
theorem ownOperation_of_asleep {s : State} (hp : s.phase = .wait) (hearly : s.elapsed s.sleepStart < s.cfg.tSleep) :
    s.ownOperation = .tick := by
  have hcandidate : s.candidate = .wake := by rw [State.candidate, hp]
  rw [State.ownOperation, hcandidate, if_neg]
  rw [enabled_wake_iff]
  exact fun ⟨_, hover⟩ => absurd hover (Nat.not_le.mpr hearly)

theorem enabled_ownOperation (s : State) : enabled s.ownOperation s = true := by
  unfold State.ownOperation
  split
  · assumption
  · rfl

theorem candidate_opClass (s : State) : s.candidate.opClass = .mainLoop := by
  unfold State.candidate
  split <;> rfl

/-- By itself the block runs its main loop or lets time pass: it presses no button and does not reset. -/
theorem ownOperation_mainLoop_or_tick (s : State) : s.ownOperation.opClass = .mainLoop ∨ s.ownOperation = .tick := by
  unfold State.ownOperation
  split
  · exact .inl (candidate_opClass s)
  · exact .inr rfl

theorem step_of_nothing_offered {s : State} (h : s.inputs = []) : step s = exec s.ownOperation s :=
  step_of_fetch_ok (by simp only [State.fetch, h])

/-- Settles O53: the step is the block's own operation, which is the enabled one, and while the sleep lasts `TICK`. -/
theorem stepWithoutStimulusRunsMainLoop : Obligations.StepWithoutStimulusRunsMainLoop := by
  intro s hin
  rw [step_of_nothing_offered hin]
  have runs : ∀ i : Instr, i.opClass = .mainLoop → enabled i s = true → exec s.ownOperation s = exec i s :=
    fun i hi h => by rw [ownOperation_of_enabled hi h]
  exact ⟨fun hp => runs .blink rfl (decide_eq_true hp), fun hp => runs .pixel rfl (decide_eq_true hp),
    fun hp => runs .sleep rfl (decide_eq_true hp), fun hp hover => runs .wake rfl ((enabled_wake_iff s).mpr ⟨hp, hover⟩),
    fun hp hearly => by rw [ownOperation_of_asleep hp hearly]⟩

/-- Settles O49: a main-loop operation that is enabled now is the block's own operation now. -/
theorem undisturbedRunIsWeaklyFair : Obligations.UndisturbedRunIsWeaklyFair := by
  intro ops states _ hown i hi n hstays
  exact ⟨n, le_rfl, (hown n).trans (ownOperation_of_enabled hi (hstays n le_rfl))⟩

/-! ## The block left to itself -/

/-- Enabledness (R52) is progress, wherever `idx` names a cell. -/
theorem exec_of_enabled {i : Instr} {s : State} (hk : s.idx.toNat ≤ 24) (h : enabled i s = true) : ∃ t, exec i s = .next t := by
  cases i with
  | blink => exact ⟨_, exec_blink_of_phase (of_decide_eq_true h)⟩
  | pixel => exact ⟨_, exec_pixel_of_cell (of_decide_eq_true h) (Nat.lt_succ_of_le hk)⟩
  | sleep => exact ⟨_, exec_sleep_of_phase (of_decide_eq_true h)⟩
  | wake =>
    obtain ⟨hp, hover⟩ := (enabled_wake_iff s).mp h
    exact ⟨_, exec_wake_of_over hp hover⟩
  | edgeInc | edgeDec | edgeTog | edgeUnk | tick | sample lv | reset => exact ⟨_, rfl⟩

theorem exec_ownOperation_fault {s t : State} (h : exec s.ownOperation s = .next t) : t.fault = s.fault := by
  rcases ownOperation_mainLoop_or_tick s with hm | htick
  · exact mainLoop_fault hm h
  · rw [htick, exec_tick] at h
    cases h
    rfl

/-- A good state that meets the invariants, with nothing offered. -/
abbrev Undisturbed (s : State) : Prop := StateInv s ∧ Good s ∧ s.inputs = []

/-- From such a state the block takes a step, to such a state (R91). -/
theorem step_undisturbed {s : State} (hs : Undisturbed s) : ∃ t, step s = .next t ∧ Undisturbed t := by
  obtain ⟨hinv, hgood, hin⟩ := hs
  have ⟨_, _, _, ⟨hk, _⟩, _⟩ := hinv
  obtain ⟨t, hexec⟩ := exec_of_enabled hk (enabled_ownOperation s)
  exact ⟨t, (step_of_nothing_offered hin).trans hexec, exec_stateInv hinv hexec,
    (exec_ownOperation_fault hexec).trans hgood, (exec_inputs hexec).trans hin⟩

theorem run_succ_of_step {s t : State} (h : step s = .next t) (k : Nat) :
    Host.Core.run Sys2Proof.core (k + 1) s = Host.Core.run Sys2Proof.core k t := by
  have hcore : Sys2Proof.core.step s = .next t := h
  simp only [Host.Core.run, hcore]

/-- Settles O47: by induction on the steps, each of which the block can take. -/
theorem undisturbedRunNeverStops : Obligations.UndisturbedRunNeverStops := by
  intro s k hinv hgood hin
  induction k generalizing s with
  | zero => exact ⟨s, rfl, hinv, hgood⟩
  | succ k ih =>
    obtain ⟨t, hstep, htinv, htgood, htin⟩ := step_undisturbed ⟨hinv, hgood, hin⟩
    rw [run_succ_of_step hstep]
    exact ih t htinv htgood htin

theorem step_of_sleep_due {s : State} (hin : s.inputs = []) (hp : s.phase = .sleep) :
    step s = .next ((s.setSleepStart s.now).setPc .wait 0#5) := by
  rw [step_of_nothing_offered hin, ownOperation_of_enabled (i := .sleep) rfl (decide_eq_true hp), exec_sleep_of_phase hp]

theorem step_of_asleep {s : State} (hin : s.inputs = []) (hp : s.phase = .wait)
    (hearly : s.elapsed s.sleepStart < s.cfg.tSleep) : step s = .next (s.setNow ((s.now + 1) % 2 ^ s.cfg.tw)) := by
  rw [step_of_nothing_offered hin, ownOperation_of_asleep hp hearly, exec_tick]

theorem step_of_sleep_over {s : State} (hin : s.inputs = []) (hp : s.phase = .wait)
    (hover : s.cfg.tSleep ≤ s.elapsed s.sleepStart) : step s = .next (s.setPc .blink 0#5) := by
  rw [step_of_nothing_offered hin, ownOperation_of_enabled (i := .wake) rfl ((enabled_wake_iff s).mpr ⟨hp, hover⟩),
    exec_wake_of_over hp hover]

/-- The rest of a sleep of which `k` ms are over: while it is not over as a whole, each step is a millisecond. -/
theorem run_asleep {k n : Nat} {s : State} (hin : s.inputs = []) (hp : s.phase = .wait)
    (hwidth : s.cfg.tSleep < 2 ^ s.cfg.tw) (hn : k + n ≤ s.cfg.tSleep) (hnow : s.now = (s.sleepStart + k) % 2 ^ s.cfg.tw) :
    Host.Core.run Sys2Proof.core n s = .next (s.setNow ((s.sleepStart + (k + n)) % 2 ^ s.cfg.tw)) := by
  induction n generalizing s k with
  | zero => rw [Nat.add_zero, ← hnow]; rfl
  | succ n ih =>
    have helapsed : s.elapsed s.sleepStart = k := elapsed_of_modEq (by omega) (by rw [hnow, Nat.mod_mod])
    have hnext : (s.now + 1) % 2 ^ s.cfg.tw = (s.sleepStart + (k + 1)) % 2 ^ s.cfg.tw := by
      rw [hnow, Nat.mod_add_mod, Nat.add_assoc]
    rw [run_succ_of_step (step_of_asleep hin hp (by omega)),
      ih (s := s.setNow ((s.now + 1) % 2 ^ s.cfg.tw)) (k := k + 1) hin hp hwidth (by rw [setNow_cfg]; omega) hnext,
      show k + (n + 1) = k + 1 + n by omega]
    rfl

/-- Settles O48: `SLEEP`, then `T_SLEEP` times `TICK`, after which the guard of `WAKE` holds. -/
theorem undisturbedSleepLastsExactly : Obligations.UndisturbedSleepLastsExactly := by
  intro s hin hp hnow hwidth
  have hrun := run_asleep (s := (s.setSleepStart s.now).setPc .wait 0#5) (k := 0) (n := s.cfg.tSleep) hin rfl hwidth
    (Nat.zero_add _).le (Nat.mod_eq_of_lt hnow).symm
  rw [Nat.zero_add] at hrun
  rw [Nat.add_comm, run_succ_of_step (step_of_sleep_due hin hp)]
  exact ⟨_, _, hrun, rfl, rfl, rfl, step_of_sleep_over hin rfl (sleep_over_of_now_eq hwidth rfl), rfl, rfl⟩

end Sys2Proof.Machine
end

section
/-!
PROOFS of 60_exceptions.md: the two violations (R100 to R103), simultaneous edges (R106), and what the main context keeps over the
entry of a button interrupt (R107) and its return (R108).
-/

namespace Sys2Proof.Machine

/-! ## The two violations -/

theorem exec_edgeUnk_of_production {s : State} (h : s.cfg.strict = false) : exec .edgeUnk s = .next s := by
  simp [exec, execEdgeUnk, h]

theorem exec_edgeUnk_of_testBuild {s : State} (h : s.cfg.strict = true) : exec .edgeUnk s = .next (s.raise .unknownPin) := by
  simp [exec, execEdgeUnk, h]

/-- Settles O15: `STRICT` decides whether the violation is raised, and `UnknownPin` is bit 0. -/
theorem edgeUnkRecordsOnlyInTestBuild : Obligations.EdgeUnkRecordsOnlyInTestBuild :=
  fun _ => ⟨exec_edgeUnk_of_production, exec_edgeUnk_of_testBuild⟩

/-- The toggle that enables the display looks the digit up: an illegal one is recorded, and the toggle goes on (R102, R103). -/
theorem exec_edgeTog_enables_illegal {s : State} (haccepted : s.cfg.tDebounce < s.elapsed s.lastAccTog) (hen : s.en = false)
    (hdigit : 10 ≤ s.digit.toNat) : exec .edgeTog s =
      .next ((((s.setLastAcc .tog s.now).setEn true).raise .invalidDigit).bufWriteFree) := by
  have hexec := exec_edgeOp_of_accepted (b := .tog) haccepted
  rw [actionOf, togAction_enables (s := s.setLastAcc .tog s.now) hen,
    refresh_illegal (s := (s.setLastAcc .tog s.now).setEn true) hdigit] at hexec
  exact hexec

/-- Settles O14: the mask is the model's next free value, and `InvalidDigit` is bit 1. -/
theorem edgeTogRecordsInvalidDigit : Obligations.EdgeTogRecordsInvalidDigit :=
  fun s hdigit hen haccepted => ⟨Config.freeMask s.freeCount, exec_edgeTog_enables_illegal haccepted hen hdigit⟩

/-- The counting actions reduce the digit modulo 10, the other operations leave it or reset it (R70). -/
theorem exec_digitLegal {i : Instr} {s t : State} (hs : DigitLegal s) (h : exec i s = .next t) : DigitLegal t := by
  by_cases hm : i.opClass = .mainLoop
  · rw [mainLoop_frame hm h]
    exact hs
  have edge : ∀ b u, DigitLegal u → DigitLegal (performEdge b u) := fun b u hu => by
    obtain ⟨_, _, hlegal⟩ := performEdge_legal (b := b) hu
    exact hlegal
  rcases nonMainLoop_cases hm h with ⟨b, _, rfl⟩ | ⟨_, rfl⟩ | ⟨lv, _, rfl⟩ | ⟨_, rfl⟩ | ⟨_, hr⟩
  · exact edge b s hs
  · split <;> exact hs
  · exact sampled_preserves (fun _ _ hu => hu) edge lv hs
  · exact hs
  · rw [execReset_eq] at hr
    cases hr
    exact Nat.zero_le 9

/-- `RESET` clears the fault bits; of the other operations only `EDGE_UNK` in a test build would set one (R101, R102). -/
theorem exec_good_of_production {i : Instr} {s t : State} (hdigit : DigitLegal s) (hgood : Good s)
    (hproduction : s.cfg.strict = false) (h : exec i s = .next t) : Good t := by
  by_cases hr : i = .reset
  · subst hr
    rw [exec, execReset_eq] at h
    cases h
    rfl
  · rcases exec_fault_legal hr hdigit h with hkept | ⟨_, hstrict⟩
    · exact hkept.trans hgood
    · rw [hproduction] at hstrict
      cases hstrict

/-- Settles O32: every operation keeps the three together, and none of them reads the environment's list. -/
theorem everyStepStaysGoodInProduction : Obligations.EveryStepStaysGoodInProduction := by
  intro s t hdigit hgood hproduction hstep
  refine step_preserves (P := fun u => DigitLegal u ∧ Good u ∧ u.cfg.strict = false) (fun _ _ h => h) ?_
    ⟨hdigit, hgood, hproduction⟩ hstep
  rintro i u v ⟨hdigit, hgood, hproduction⟩ h
  exact ⟨exec_digitLegal hdigit h, exec_good_of_production hdigit hgood hproduction h, exec_cfg h ▸ hproduction⟩

/-! ## Two edges in the same millisecond -/

theorem runOps_edge_pair (b c : Button) (s : State) :
    runOps [edgeOp b, edgeOp c] s = .next (performEdge c (performEdge b s)) := by
  rw [runOps_cons_of_next (edgeOp_exec b s), runOps_cons_of_next (edgeOp_exec c _), runOps]

/-- An edge that would be discarded is discarded also after another button's edge, so that the order does not matter. -/
theorem performEdge_comm_of_deaf {b : Button} {s : State} (h : Deaf b s) (c : Button) :
    performEdge b (performEdge c s) = performEdge c (performEdge b s) := by
  rw [performEdge_discards (deaf_performEdge h c), performEdge_discards h]

/-- Each button has a window of its own: an edge accepted for one leaves another's to be accepted (R131). -/
theorem performEdge_pair_of_accepted {b c : Button} {s : State} (hne : c ≠ b)
    (hb : s.cfg.tDebounce < s.elapsed (s.lastAcc b)) (hc : s.cfg.tDebounce < s.elapsed (s.lastAcc c)) :
    performEdge c (performEdge b s) = actionOf c ((actionOf b (s.setLastAcc b s.now)).setLastAcc c s.now) := by
  have hstill : (performEdge b s).cfg.tDebounce < (performEdge b s).elapsed ((performEdge b s).lastAcc c) := by
    rw [performEdge_cfg, performEdge_lastAcc_other hne, elapsed_congr (performEdge_cfg b s) (performEdge_now b s)]
    exact hc
  rw [performEdge_accepts hstill, performEdge_now, performEdge_accepts hb]

theorem setLastAcc_comm (s : State) (b c : Button) (n : Nat) :
    (s.setLastAcc b n).setLastAcc c n = (s.setLastAcc c n).setLastAcc b n := by
  cases b <;> cases c <;> rfl

/-- What a button's action makes of the digit (R64 to R66). -/
def countedDigit : Button → Digit → Digit
  | .inc => digitUp
  | .dec => digitDown
  | .tog => id

theorem countedDigit_le_nine (b : Button) {d : Digit} (h : d.toNat ≤ 9) : (countedDigit b d).toNat ≤ 9 := by
  cases b with
  | inc => exact digitUp_le_nine d
  | dec => exact digitDown_le_nine d
  | tog => exact h

/-- The digit `d` with its pattern in the buffer. -/
def State.showing (s : State) (d : Digit) : State := (s.setDigit d).bufWrite (maskFor s.cfg (Fin.ofNat 10 d.toNat))

theorem refresh_eq_showing {s : State} (h : s.digit.toNat ≤ 9) : s.refresh = s.showing s.digit :=
  refresh_legal (Nat.lt_succ_of_le h)

/-- A counting action shows the new digit, whatever the old one was. -/
theorem actionOf_eq_showing {b : Button} (hb : b ≠ .tog) (s : State) :
    actionOf b s = s.showing (countedDigit b s.digit) := by
  cases b with
  | inc => exact refresh_eq_showing (s := s.setDigit (digitUp s.digit)) (digitUp_le_nine s.digit)
  | dec => exact refresh_eq_showing (s := s.setDigit (digitDown s.digit)) (digitDown_le_nine s.digit)
  | tog => exact absurd rfl hb

theorem digitDown_digitUp (d : Digit) : digitDown (digitUp d) = BitVec.ofNat 4 (d.toNat % 10) := by
  rw [digitDown, digitUp_toNat]
  congr 1
  omega

theorem digitUp_digitDown (d : Digit) : digitUp (digitDown d) = BitVec.ofNat 4 (d.toNat % 10) := by
  rw [digitUp, digitDown_toNat]
  congr 1
  omega

/-- Two accepted counting edges: both records, and the digit counted twice with its pattern. -/
theorem performEdge_counting_pair {b c : Button} {s : State} (hbtog : b ≠ .tog) (hctog : c ≠ .tog) (hne : c ≠ b)
    (hb : s.cfg.tDebounce < s.elapsed (s.lastAcc b)) (hc : s.cfg.tDebounce < s.elapsed (s.lastAcc c)) :
    performEdge c (performEdge b s) =
      ((s.setLastAcc b s.now).setLastAcc c s.now).showing (countedDigit c (countedDigit b s.digit)) := by
  rw [performEdge_pair_of_accepted hne hb hc, actionOf_eq_showing hctog, actionOf_eq_showing hbtog]
  rfl

theorem performEdge_inc_dec {s : State} (hinc : s.cfg.tDebounce < s.elapsed s.lastAccInc)
    (hdec : s.cfg.tDebounce < s.elapsed s.lastAccDec) : performEdge .dec (performEdge .inc s) =
      ((s.setLastAcc .inc s.now).setLastAcc .dec s.now).showing (BitVec.ofNat 4 (s.digit.toNat % 10)) := by
  rw [← digitDown_digitUp]
  exact performEdge_counting_pair (b := .inc) (c := .dec) (by decide) (by decide) (by decide) hinc hdec

theorem performEdge_dec_inc {s : State} (hinc : s.cfg.tDebounce < s.elapsed s.lastAccInc)
    (hdec : s.cfg.tDebounce < s.elapsed s.lastAccDec) : performEdge .inc (performEdge .dec s) =
      ((s.setLastAcc .dec s.now).setLastAcc .inc s.now).showing (BitVec.ofNat 4 (s.digit.toNat % 10)) := by
  rw [← digitUp_digitDown]
  exact performEdge_counting_pair (b := .dec) (c := .inc) (by decide) (by decide) (by decide) hdec hinc

theorem performEdge_inc_dec_comm (s : State) :
    performEdge .dec (performEdge .inc s) = performEdge .inc (performEdge .dec s) := by
  rcases Nat.lt_or_ge s.cfg.tDebounce (s.elapsed s.lastAccInc) with hinc | hdeaf
  · rcases Nat.lt_or_ge s.cfg.tDebounce (s.elapsed s.lastAccDec) with hdec | hdeaf
    · rw [performEdge_inc_dec hinc hdec, performEdge_dec_inc hinc hdec, setLastAcc_comm]
    · exact performEdge_comm_of_deaf hdeaf .inc
  · exact (performEdge_comm_of_deaf hdeaf .dec).symm

/-- Settles O23: counting up and down, in either order, reduces the digit modulo 10, which a legal digit already is. -/
theorem incAndDecCommute : Obligations.IncAndDecCommute := by
  intro s
  have hincDec := runOps_edge_pair .inc .dec s
  refine ⟨?_, fun hdigit hinc hdec => ?_⟩
  · rw [performEdge_inc_dec_comm] at hincDec
    exact hincDec.trans (runOps_edge_pair .dec .inc s).symm
  · have hback : BitVec.ofNat 4 (s.digit.toNat % 10) = s.digit := by
      rw [Nat.mod_eq_of_lt (Nat.lt_succ_of_le hdigit), BitVec.ofNat_toNat, BitVec.setWidth_eq]
    rw [performEdge_inc_dec hinc hdec, hback] at hincDec
    exact hincDec

/-- The toggle neither reads nor writes a record. -/
theorem togAction_setLastAcc {s : State} (hdigit : DigitLegal s) (b : Button) (n : Nat) :
    togAction (s.setLastAcc b n) = (togAction s).setLastAcc b n := by
  cases hen : s.en with
  | true => rw [togAction_disables hen, togAction_disables (s := s.setLastAcc b n) hen]; rfl
  | false =>
    rw [togAction_enables hen, togAction_enables (s := s.setLastAcc b n) hen, refresh_eq_showing (s := s.setEn true) hdigit,
      refresh_eq_showing (s := (s.setLastAcc b n).setEn true) hdigit]
    rfl

/-- Where the display ends disabled, the order decides whether the cleared buffer or the new digit's pattern is left hidden; where it
ends enabled, the last lookup is of the new digit in either order. -/
theorem togAction_showing_sameButHiddenBuf {s : State} {d : Digit} (hdigit : DigitLegal s) (hd : d.toNat ≤ 9) :
    SameButHiddenBuf (togAction (s.showing d)) ((togAction s).showing d) := by
  cases hen : s.en with
  | true =>
    rw [togAction_disables hen, togAction_disables (s := s.showing d) hen]
    exact sameButHiddenBuf_bufWrite (s := ((s.setDigit d).setEn false).clear) rfl _
  | false =>
    rw [togAction_enables hen, togAction_enables (s := s.showing d) hen, refresh_eq_showing (s := s.setEn true) hdigit,
      refresh_eq_showing (s := (s.showing d).setEn true) hd]
    exact sameButHiddenBuf_refl ((s.setEn true).showing d)

/-- Both edges accepted: the same two records and the same new digit in either order. -/
theorem counting_toggle_of_accepted {b : Button} {s : State} (hb : b ≠ .tog) (hdigit : DigitLegal s)
    (hcount : s.cfg.tDebounce < s.elapsed (s.lastAcc b)) (htoggle : s.cfg.tDebounce < s.elapsed (s.lastAcc .tog)) :
    SameButHiddenBuf (performEdge .tog (performEdge b s)) (performEdge b (performEdge .tog s)) := by
  have hcountFirst : performEdge .tog (performEdge b s) =
      togAction (((s.setLastAcc b s.now).setLastAcc .tog s.now).showing (countedDigit b s.digit)) := by
    rw [performEdge_pair_of_accepted hb.symm hcount htoggle, actionOf_eq_showing hb]
    rfl
  have htoggleFirst : performEdge b (performEdge .tog s) =
      (togAction ((s.setLastAcc b s.now).setLastAcc .tog s.now)).showing (countedDigit b s.digit) := by
    rw [performEdge_pair_of_accepted hb htoggle hcount, actionOf_eq_showing hb, actionOf, setLastAcc_comm,
      ← togAction_setLastAcc (s := s.setLastAcc .tog s.now) hdigit, togAction_digit]
    rfl
  rw [hcountFirst, htoggleFirst]
  exact togAction_showing_sameButHiddenBuf hdigit (countedDigit_le_nine b hdigit)

/-- Settles O24: the orders can differ only where both edges are accepted, and then only in a hidden buffer. -/
theorem countAndToggleCommuteVisibly : Obligations.CountAndToggleCommuteVisibly := by
  intro b s hdigit hb
  refine ⟨_, _, runOps_edge_pair b .tog s, runOps_edge_pair .tog b s, ?_⟩
  rcases Nat.lt_or_ge s.cfg.tDebounce (s.elapsed (s.lastAcc b)) with hcount | hdeaf
  · rcases Nat.lt_or_ge s.cfg.tDebounce (s.elapsed (s.lastAcc .tog)) with htoggle | hdeaf
    · exact counting_toggle_of_accepted hb hdigit hcount htoggle
    · rw [performEdge_comm_of_deaf hdeaf b]
      exact sameButHiddenBuf_refl _
  · rw [performEdge_comm_of_deaf hdeaf .tog]
    exact sameButHiddenBuf_refl _

/-! ## Entry -/

/-- All a button operation writes is outside the main context, the time, the stream and what the environment will do (R107). -/
theorem button_leavesMainContext {i : Instr} {s t : State} (hi : i.opClass = .button) (h : exec i s = .next t) :
    SameMainContext s t ∧ t.now = s.now ∧ t.tx = s.tx ∧ t.txMark = s.txMark ∧ t.cfg = s.cfg ∧ t.inputs = s.inputs := by
  have hm : i.opClass ≠ .mainLoop := by rw [hi]; decide
  rcases nonMainLoop_cases hm h with ⟨b, _, rfl⟩ | ⟨_, rfl⟩ | ⟨lv, _, rfl⟩ | ⟨rfl, _⟩ | ⟨rfl, _⟩
  · simp [SameMainContext]
  · split <;> simp [SameMainContext]
  · simp [SameMainContext]
  · cases hi
  · cases hi

/-- Settles O26: a button operation is outside the main loop, so it goes on, and all it can do leaves what is named. -/
theorem buttonOperationsLeaveMainContext : Obligations.ButtonOperationsLeaveMainContext := by
  intro i s hi
  obtain ⟨t, h⟩ := exec_of_not_mainLoop (i := i) (by rw [hi]; decide) s
  exact ⟨t, h, button_leavesMainContext hi h⟩

/-! ## Return -/

/-- All that the main loop reads to choose its operation and to write its own registers. -/
def SameMainView (s u : State) : Prop := SameMainContext s u ∧ u.now = s.now ∧ u.cfg = s.cfg

theorem SameMainView.blinkDue_eq {s u : State} (h : SameMainView s u) : u.blinkDue = s.blinkDue := by
  obtain ⟨⟨hlast, _⟩, hnow, hcfg⟩ := h
  rw [State.blinkDue, State.blinkDue, hcfg, hlast, elapsed_congr hcfg hnow]

theorem SameMainView.sleepOver_eq {s u : State} (h : SameMainView s u) : u.sleepOver = s.sleepOver := by
  obtain ⟨⟨_, _, _, _, _, hsleep⟩, hnow, hcfg⟩ := h
  rw [State.sleepOver, State.sleepOver, hcfg, hsleep, elapsed_congr hcfg hnow]

theorem SameMainView.enabled_eq {s u : State} (h : SameMainView s u) (i : Instr) : enabled i u = enabled i s := by
  have ⟨⟨_, _, _, hphase, _⟩, _⟩ := h
  cases i with
  | blink | pixel | sleep => rw [enabled, enabled, hphase]
  | wake => rw [enabled, enabled, hphase, h.sleepOver_eq]
  | edgeInc | edgeDec | edgeTog | edgeUnk | tick | sample lv | reset => rfl

/-- An operation is refused exactly where it is not enabled (R52); a `PIXEL` that is enabled can only fault. -/
theorem exec_notEnabled_iff (i : Instr) (s : State) : exec i s = .refused (.notEnabled i) ↔ enabled i s = false := by
  cases i with
  | blink =>
    by_cases hp : s.phase = .blink
    · simp [exec_blink_of_phase hp, enabled, hp]
    · simp [exec_blink_of_not_phase hp, enabled, hp]
  | pixel =>
    by_cases hp : s.phase = .render
    · rcases Nat.lt_or_ge s.idx.toNat 25 with hk | hk
      · simp [exec_pixel_of_cell hp hk, enabled, hp]
      · simp [exec_pixel_of_missing hp hk, enabled, hp]
    · simp [exec_pixel_of_not_render hp, enabled, hp]
  | sleep =>
    by_cases hp : s.phase = .sleep
    · simp [exec_sleep_of_phase hp, enabled, hp]
    · simp [exec_sleep_of_not_phase hp, enabled, hp]
  | wake =>
    rw [← Bool.not_eq_true, enabled_wake_iff]
    by_cases hw : s.phase = .wait ∧ s.cfg.tSleep ≤ s.elapsed s.sleepStart
    · obtain ⟨hp, hover⟩ := hw
      simp [exec_wake_of_over hp hover, hp, hover]
    · simp [exec_wake_of_not_over hw, hw]
  | edgeInc | edgeDec | edgeTog | edgeUnk | tick | sample lv | reset => exact ⟨fun h => (nomatch h), fun h => (nomatch h)⟩

theorem SameMainView.refused_iff {s u : State} (h : SameMainView s u) (i : Instr) (r : Refusal) :
    exec i u = .refused r ↔ exec i s = .refused r := by
  have hsame : exec i u = .refused (.notEnabled i) ↔ exec i s = .refused (.notEnabled i) := by
    rw [exec_notEnabled_iff, exec_notEnabled_iff, h.enabled_eq]
  constructor
  · intro hu
    obtain rfl := refusal_eq_notEnabled hu
    exact hsame.mp hu
  · intro hs
    obtain rfl := refusal_eq_notEnabled hs
    exact hsame.mpr hs

theorem sameMainContext_setPc {s u : State} (h : SameMainContext s u) (p : Phase) (k : BitVec 5) :
    SameMainContext (s.setPc p k) (u.setPc p k) := by
  obtain ⟨hlast, hind, hout, _, _, hsleep⟩ := h
  exact ⟨hlast, hind, hout, rfl, rfl, hsleep⟩

/-- The poll of the indicator is due in both or in neither. -/
theorem SameMainView.polled {s u : State} (h : SameMainView s u) : SameMainContext s.polled u.polled := by
  have ⟨hcontext, hnow, hcfg⟩ := h
  have ⟨_, hind, _, hphase, hidx, hsleep⟩ := hcontext
  rw [State.polled, State.polled, h.blinkDue_eq]
  split
  · rw [toggleIndicator_eq, toggleIndicator_eq, hind, hcfg]
    exact ⟨hnow, rfl, rfl, hphase, hidx, hsleep⟩
  · exact hcontext

theorem sameMainContext_advanceSweep {s u : State} (h : SameMainContext s u) :
    SameMainContext s.advanceSweep u.advanceSweep := by
  have ⟨_, _, _, _, hidx, _⟩ := h
  rw [State.advanceSweep, State.advanceSweep, hidx]
  split <;> exact sameMainContext_setPc h _ _

/-- Where a main-loop operation goes on, it goes on from every state that looks the same to the main loop, and does the same to the
main context: of the interrupt context `PIXEL` alone reads anything, and that goes to the stream. -/
theorem SameMainView.exec_mainLoop {i : Instr} {s u u' : State} (h : SameMainView s u) (hi : i.opClass = .mainLoop)
    (hu : exec i u = .next u') : ∃ s', exec i s = .next s' ∧ SameMainContext s' u' := by
  have ⟨hcontext, hnow, hcfg⟩ := h
  have ⟨hlast, hind, hout, hphase, hidx, hsleep⟩ := hcontext
  rcases mainLoop_cases hi hu with ⟨rfl, hp, rfl⟩ | ⟨rfl, hp, hk, rfl⟩ | ⟨rfl, hp, rfl⟩ | ⟨rfl, hp, hover, rfl⟩ <;>
    rw [hphase] at hp
  · exact ⟨_, exec_blink_of_phase hp, sameMainContext_setPc h.polled _ _⟩
  · rw [hidx] at hk
    exact ⟨_, exec_pixel_of_cell hp hk, sameMainContext_advanceSweep hcontext⟩
  · exact ⟨_, exec_sleep_of_phase hp, hlast, hind, hout, rfl, rfl, hnow⟩
  · rw [hcfg, hsleep, elapsed_congr hcfg hnow] at hover
    exact ⟨_, exec_wake_of_over hp hover, sameMainContext_setPc hcontext _ _⟩

/-- Settles O28: the main loop sees no difference over a button operation. -/
theorem mainLoopResumesAfterButton : Obligations.MainLoopResumesAfterButton := by
  intro i j s s' hi hj hexec
  obtain ⟨hcontext, hnow, _, _, hcfg, _⟩ := button_leavesMainContext hi hexec
  have hview : SameMainView s s' := ⟨hcontext, hnow, hcfg⟩
  exact ⟨fun _ => hview.exec_mainLoop hj, hview.refused_iff j⟩

end Sys2Proof.Machine
end

section
/-!
PROOFS of 70_reset_and_hazards.md: the reset state and `RESET` (R120, R121), the first iteration (R123), and the two debounce hazards,
after reset (R127) and after a full turn of the clock (R128).
-/

namespace Sys2Proof.Machine

/-! ## The reset values -/

/-- Settles O1: the reset state is written out in 10_state.md section 7, and the machine's is that of the hardware. -/
theorem resetStateHasResetValues : Obligations.ResetStateHasResetValues := by
  refine ⟨?_, rfl⟩
  rintro c s rfl
  exact ⟨rfl, rfl, rfl, rfl, rfl, rfl, rfl, rfl, rfl, rfl, rfl, rfl, rfl, rfl, rfl⟩

/-- `RESET` keeps of the state it runs in only what is no register, and notes the length of the stream (R120). -/
theorem exec_reset (s : State) : exec .reset s = .next { State.resetFor s.cfg with
    tx := s.tx, txMark := s.tx.length, inputs := s.inputs, freeCount := s.freeCount } :=
  execReset_eq s

/-- Settles O2: the registers written are those of the reset state, which has sent nothing. -/
theorem resetLoadsEveryRegister : Obligations.ResetLoadsEveryRegister :=
  ⟨exec_reset, fun c => exec_reset (State.resetFor c)⟩

/-! ## The first iteration -/

/-- Settles O43: at reset no time has elapsed since `last_tog`, so that the poll is not due, and the rest is an iteration. -/
theorem firstIterationShowsDigitZero : Obligations.FirstIterationShowsDigitZero := by
  intro c hpositive
  have nothingElapsed : (State.resetFor c).elapsed (State.resetFor c).lastTog = 0 :=
    elapsed_of_modEq (by positivity) rfl
  have noToggle : (State.resetFor c).polled = State.resetFor c :=
    polled_of_not_due (nothingElapsed.trans_lt hpositive)
  rw [runOps_iter0 rfl, noToggle]
  rfl

/-! ## The windows that reset and the wrap of the clock begin -/

theorem resetFor_lastAcc (c : Config) (b : Button) : (State.resetFor c).lastAcc b = (State.resetFor c).now := by
  cases b <;> rfl

theorem setNow_lastAcc (s : State) (n : Nat) (b : Button) : (s.setNow n).lastAcc b = s.lastAcc b := by
  cases b <;> rfl

/-- After `n` ms with nothing else, `now` has gone on by `n` and every record has stayed. -/
theorem runOps_ticks_inv {n : Nat} {s u : State} (hnow : s.now < 2 ^ s.cfg.tw)
    (h : runOps (List.replicate n .tick) s = .next u) :
    u.cfg = s.cfg ∧ u.now = (s.now + n) % 2 ^ s.cfg.tw ∧ ∀ b, u.lastAcc b = s.lastAcc b := by
  rw [← ticks_expand, runOps_ticks_of_lt n hnow] at h
  cases h
  exact ⟨rfl, rfl, setNow_lastAcc s _⟩

theorem ticksIn_ticks (n : Nat) : ticksIn (List.replicate n .tick) = n := List.count_replicate_self

/-- The threshold passed with nothing else since reset: the record, 0, is older than it, and the edge records `now`. -/
theorem exec_edgeOp_after_reset {c : Config} {b : Button} {u : State} (hwidth : c.tDebounce + 1 < 2 ^ c.tw)
    (hr : .reset ∉ List.replicate (c.tDebounce + 1) Instr.tick)
    (h : runOps (List.replicate (c.tDebounce + 1) .tick) (State.resetFor c) = .next u) :
    ∃ t : State, exec (edgeOp b) u = .next t ∧ t.lastAcc b = c.tDebounce + 1 := by
  obtain ⟨hcfg, hnow, hrecord⟩ := runOps_ticks_inv (resetFor_timesFit c).1 h
  have helapsed : u.elapsed (u.lastAcc b) = c.tDebounce + 1 := by
    rw [hrecord, resetFor_lastAcc, runOps_elapsed hr h (by rwa [ticksIn_ticks]), ticksIn_ticks]
  have haccepted : u.cfg.tDebounce < u.elapsed (u.lastAcc b) := by
    rw [helapsed, hcfg]
    exact Nat.lt_succ_self c.tDebounce
  have hunow : u.now = c.tDebounce + 1 := by
    rw [hnow, show (State.resetFor c).now = 0 from rfl, Nat.zero_add]
    exact Nat.mod_eq_of_lt hwidth
  exact ⟨_, exec_edgeOp_of_accepted haccepted, (actionOf_setLastAcc_lastAcc b u).trans hunow⟩

/-- Settles O21: every record equals `now` at reset, as after an accepted edge, so that the same window is open; one millisecond
later the record is too old. -/
theorem buttonsDeafAfterReset : Obligations.ButtonsDeafAfterReset := by
  intro c b ops u hwidth hr hrun
  have hthreshold : c.tDebounce < 2 ^ c.tw := by omega
  refine ⟨fun hticks => ?_, ?_⟩
  · have hkept : u.lastAcc b = (State.resetFor c).now :=
      runOps_lastAcc_of_window (resetFor_lastAcc c b) hthreshold hr hticks hrun
    exact exec_edgeOp_of_discarded (runOps_deaf hthreshold hr hticks hrun hkept)
  · rintro rfl
    exact exec_edgeOp_after_reset hwidth hr hrun

/-- Whole turns of the clock are not seen in the elapsed time. -/
theorem elapsed_after_turns {b : Button} {s u : State} {rounds n : Nat} (hrecord : s.lastAcc b = s.now)
    (hnow : s.now < 2 ^ s.cfg.tw) (hn : n < 2 ^ s.cfg.tw)
    (h : runOps (List.replicate (rounds * 2 ^ s.cfg.tw + n) .tick) s = .next u) : u.elapsed (u.lastAcc b) = n := by
  obtain ⟨hcfg, hunow, hkept⟩ := runOps_ticks_inv hnow h
  have hturned : u.now % 2 ^ u.cfg.tw = (s.now + n) % 2 ^ u.cfg.tw := by
    rw [hunow, hcfg, Nat.mod_mod, Nat.add_left_comm, Nat.mul_add_mod_self_right]
  rw [hkept, hrecord]
  exact elapsed_of_modEq (hcfg ▸ hn) hturned

/-- Settles O22: of the accepted edge's record only the milliseconds since the last full turn seem to have elapsed. -/
theorem windowRecursAfterWrap : Obligations.WindowRecursAfterWrap := by
  intro b s s' u rounds n haccepted hedge hnowfits hn hwidth hrun
  obtain ⟨hrecord, hnow, hcfg⟩ := exec_edgeOp_accepted_records haccepted hedge
  rw [← hnow, ← hcfg] at hnowfits
  rw [← hcfg] at hn hwidth hrun
  have helapsed : u.elapsed (u.lastAcc b) = n := elapsed_after_turns hrecord hnowfits (hn.trans_lt hwidth) hrun
  have hucfg : u.cfg = s'.cfg := (runOps_ticks_inv hnowfits hrun).1
  exact exec_edgeOp_of_discarded (by rw [helapsed, hucfg]; exact hn)

end Sys2Proof.Machine
end
